-- ==== Sys2Proof/Word.lean ====
section
/-! DEFINITION. The codec's two data widths (spec/00_scope.md R7): bytes and 16-bit words, both unsigned. -/

namespace Sys2Proof

/-- An unsigned 8-bit value (R7); the unit of every frame. -/
abbrev Byte := BitVec 8

/-- An unsigned 16-bit value (R7): a field of a frame, a register value or a CRC. -/
abbrev Word := BitVec 16

end Sys2Proof
end

