-- ==== Sys2Proof/Syntax.lean ====
section
/-! DEFINITION. The codec's instruction set (spec/opcode_table.json: one constructor of `Instr` per row), and the
two records of the dispatcher interface (spec/42_request_decode.md R150, spec/44_sequencer.md R210). -/

namespace Sys2Proof

/-- The two instances of the CRC generator (R109): the receive side's (`rx_crc`) and the transmit side's (`tx_crc`). A
CRC operation names its instance (DESIGN CHOICE, log entry 12). -/
inductive CrcUnit where
  | rx
  | tx
deriving DecidableEq, Repr, Inhabited

/-- The instructions: eight requests (R151 to R158), eight success responses (R171 to R178), the two exception
responses (R179, R182), and the four operations of the CRC generator (R105 to R108). Operands are the fields the
spec names: `addr` the slave address, `a` and `b` the two 16-bit fields of R75, `bc` and `data` the byte count and
payload of a REQM request, `v` the bits and `w` the registers of a read response. -/
inductive Instr where
  | readCoils (addr : Byte) (a b : Word)
  | readDiscreteInputs (addr : Byte) (a b : Word)
  | readHoldingRegisters (addr : Byte) (a b : Word)
  | readInputRegisters (addr : Byte) (a b : Word)
  | writeSingleCoil (addr : Byte) (a b : Word)
  | writeSingleRegister (addr : Byte) (a b : Word)
  | writeMultipleCoils (addr : Byte) (a b : Word) (bc : Byte) (data : List Byte)
  | writeMultipleRegisters (addr : Byte) (a b : Word) (bc : Byte) (data : List Byte)
  | readCoilsRsp (addr : Byte) (v : List Bool)
  | readDiscreteInputsRsp (addr : Byte) (v : List Bool)
  | readHoldingRegistersRsp (addr : Byte) (w : List Word)
  | readInputRegistersRsp (addr : Byte) (w : List Word)
  | writeSingleCoilRsp (addr : Byte) (a b : Word)
  | writeSingleRegisterRsp (addr : Byte) (a b : Word)
  | writeMultipleCoilsRsp (addr : Byte) (a b : Word)
  | writeMultipleRegistersRsp (addr : Byte) (a b : Word)
  | exceptionRsp (addr fc code : Byte)
  | illegalFunctionRsp (addr fc : Byte)
  | crcHold (unit : CrcUnit)
  | crcUpdate (unit : CrcUnit) (din : Byte)
  | crcInit (unit : CrcUnit)
  | crcInitUpdate (unit : CrcUnit) (din : Byte)
deriving DecidableEq, Repr

/-- The Request record presented on the `req` port (R150). -/
structure Request where
  addr : Byte
  fc : Byte
  a : Word
  b : Word
  bc : Byte
  data : List Byte
deriving DecidableEq, Repr, Inhabited

/-- The Response record, the type of the `resp` input (R210). -/
inductive Response where
  | bits (v : List Bool)
  | regs (w : List Word)
  | writeOk
  | exc (code : Byte)
deriving DecidableEq, Repr, Inhabited

end Sys2Proof
end

