-- ==== Sys2Proof/Machine/Ports.lean ====
section
/-! DEFINITION. The codec's ports (spec/10_state.md R30, R31), as plain records: one sample of the inputs, and the
outputs of one cycle. -/

namespace Sys2Proof.Machine

/-- The inputs sampled in one cycle (R30); `clk` is the step itself. -/
structure Inputs where
  rst : Bool
  cfgUnitId : Byte
  cfgPromisc : Bool
  rxValid : Bool
  rxData : Byte
  txReady : Bool
  respValid : Bool
  resp : Response
  stop : Bool
deriving DecidableEq, Repr, Inhabited

/-- The outputs of one cycle (R31). -/
structure Outputs where
  txValid : Bool
  txData : Byte
  reqValid : Bool
  req : Request
  ev : BitVec 8
  state : BitVec 3
  busy : Bool
  stopped : Bool
deriving DecidableEq, Repr, Inhabited

/-- The inputs of a cycle in which nothing is driven but `tx_ready` = 1: the stimulus line `IDLE 1` (R84). Ports the
line leaves open hold 0; the codec does not read them in such a cycle (R213; DESIGN CHOICE, log entry 16). -/
def Inputs.quiet : Inputs where
  rst := false
  cfgUnitId := 0
  cfgPromisc := false
  rxValid := false
  rxData := 0
  txReady := true
  respValid := false
  resp := .writeOk
  stop := false

/-- The inputs of a cycle with one received byte: the stimulus line `RX b` (R84). -/
def Inputs.rxByte (b : Byte) : Inputs := { Inputs.quiet with rxValid := true, rxData := b }

/-- The inputs of a reset cycle: the stimulus line `RESET` (R84). -/
def Inputs.reset (unit : Byte) (promisc : Bool) : Inputs :=
  { Inputs.quiet with rst := true, cfgUnitId := unit, cfgPromisc := promisc }

end Sys2Proof.Machine
end

