-- ==== Sys2Proof/Config.lean ====
section
/-! DEFINITION. What the codec is built with (spec/00_scope.md R6), and the values the spec leaves free
(spec/93_implementation_defined.md I1 to I7). A constant without a body can be given no value by any proof. -/

namespace Sys2Proof

/-- `RX_CAP` (R6). -/
def Config.rxCap : Nat := 256

/-- `TX_BODY_CAP` (R6). -/
def Config.txBodyCap : Nat := 253

/-- `T35_CYCLES` less one: the spec leaves the parameter OPEN (I1; DESIGN CHOICE, log entry 1). -/
opaque Config.t35Extra : Nat

/-- `T35_CYCLES` (R6): any positive integer. -/
def Config.t35Cycles : Nat := Config.t35Extra + 1

/-- What `rx_buf[i]` holds before anything is written there (I3), by the reset it follows (log entry 2). -/
opaque Config.freeRxByte : Nat → Nat → BitVec 8

/-- What `tx_body[i]` holds before anything is written there (I4), by the reset it follows (log entry 2). -/
opaque Config.freeTxByte : Nat → Nat → BitVec 8

/-- What `tx_data` shows while `tx_valid` = 0 (I5), by the cycle (log entry 11). -/
opaque Config.freeTxData : Nat → BitVec 8

/-- What `req` shows while `req_valid` = 0 (I6), by the cycle (log entry 11). -/
opaque Config.freeReq : Nat → Request

/-- What `req_data_byte` shows outside its window (R32), by the cycle (log entry 11). -/
opaque Config.freeReqData : Nat → BitVec 8

/-- What the outside drives in a cycle for which the state's schedule lists no inputs, by the cycle (log entry 4). -/
opaque Config.freeInputs : Nat → Machine.Inputs

end Sys2Proof
end

