-- ==== Sys2Proof/Machine/Operands.lean ====
section
/-! DEFINITION. Field assembly and the response bodies: byte and bit order (spec/20_memory.md R53 to R55,
spec/30_encoding.md R74) and the body layouts of R76, shared by the encoder and by the meanings. -/

namespace Sys2Proof

/-- `hi(w) = w[15:8]` (R8). -/
def hi (w : Word) : Byte := w.extractLsb' 8 8

/-- `lo(w) = w[7:0]` (R8). -/
def lo (w : Word) : Byte := w.extractLsb' 0 8

/-- `be16(x, y) = x * 256 + y` (R8, R74): the high byte comes first. -/
def be16 (x y : Byte) : Word := BitVec.ofNat 16 (x.toNat * 256 + y.toNat)

/-- `le16(x, y) = y * 256 + x` (R8, R53): the low byte comes first. -/
def le16 (x y : Byte) : Word := BitVec.ofNat 16 (y.toNat * 256 + x.toNat)

/-- Byte `i` of a byte sequence; every rule that reads a byte first fixes that it is there (DESIGN CHOICE beyond the
end, log entry 18). -/
def byteAt (f : List Byte) (i : Nat) : Byte := f.getD i 0#8

/-- Item `i` of a list of bits as a number; 0 beyond its end (R180). -/
def bitAt (v : List Bool) (i : Nat) : Nat := if v.getD i false then 1 else 0

/-- Data byte `k` of `pack_bits(v)` (R180): item `8k + j` is bit `j`. -/
def packByte (v : List Bool) (k : Nat) : Byte :=
  BitVec.ofNat 8 (bitAt v (8 * k) + 2 * bitAt v (8 * k + 1) + 4 * bitAt v (8 * k + 2) + 8 * bitAt v (8 * k + 3)
    + 16 * bitAt v (8 * k + 4) + 32 * bitAt v (8 * k + 5) + 64 * bitAt v (8 * k + 6) + 128 * bitAt v (8 * k + 7))

/-- `ceil(n / 8)` (R8). -/
def byteCount (n : Nat) : Nat := (n + 7) / 8

/-- `pack_bits(v)` (R180): `ceil(n/8)` bytes, item 0 in bit 0 of byte 0, the padding bits 0. -/
def packBits (v : List Bool) : List Byte := (List.range (byteCount v.length)).map (packByte v)

/-- `unpack_bits(d, n)` (R184). -/
def unpackBits (d : List Byte) (n : Nat) : List Bool :=
  (List.range n).map fun i => (byteAt d (i / 8)).getLsbD (i % 8)

/-- The bytes of a list of words, each big-endian (R173). -/
def wordBytes : List Word → List Byte
  | [] => []
  | w :: ws => hi w :: lo w :: wordBytes ws

/-- `unpack_words(d)` (R184); a last odd byte belongs to no word. -/
def unpackWords : List Byte → List Word
  | x :: y :: d => be16 x y :: unpackWords d
  | _ => []

/-- A REQ8 body (R75, R185): address, function code, `a`, `b`. -/
def requestBody (addr fc : Byte) (a b : Word) : List Byte := [addr, fc, hi a, lo a, hi b, lo b]

/-- A REQM body (R75, R185): a REQ8 body, the byte count and the payload. -/
def requestBodyM (addr fc : Byte) (a b : Word) (bc : Byte) (data : List Byte) : List Byte :=
  requestBody addr fc a b ++ bc :: data

/-- An RSP_BITS body (R76, R171, R172). -/
def bitsBody (addr fc : Byte) (v : List Bool) : List Byte :=
  [addr, fc, BitVec.ofNat 8 (byteCount v.length)] ++ packBits v

/-- An RSP_REGS body (R76, R173, R174). -/
def regsBody (addr fc : Byte) (w : List Word) : List Byte :=
  [addr, fc, BitVec.ofNat 8 (2 * w.length)] ++ wordBytes w

/-- An RSP_ECHO body (R76, R175 to R178): the request's address, `a` and `b`. -/
def echoBody (addr fc : Byte) (a b : Word) : List Byte := [addr, fc, hi a, lo a, hi b, lo b]

/-- An RSP_EXC body (R76, R179, R182): the function code with bit 7 set, and the exception code. -/
def excBody (addr fc code : Byte) : List Byte := [addr, fc ||| 0x80#8, code]

end Sys2Proof
end

