-- ==== Sys2Proof/Machine/Crc.lean ====
section
/-! DEFINITION. The CRC function and the frame check (spec/40_crc.md R100 to R102, R110): the Modbus CRC of
constant 0xA001, as spec/90_conflicts.md C1 resolves. -/

namespace Sys2Proof

/-- The initial value of every CRC (R100, R102). -/
def crcStart : Word := 0xFFFF#16

/-- One turn of R101's loop: shift right, and fold in 0xA001 where a 1 left at bit 0. -/
def crcShift (r : Word) : Word := if r.getLsbD 0 then (r >>> 1) ^^^ 0xA001#16 else r >>> 1

/-- `crc_upd(c, b)` (R101): absorb one byte, least significant bit first. -/
def crcUpd (c : Word) (b : Byte) : Word :=
  crcShift (crcShift (crcShift (crcShift (crcShift (crcShift (crcShift (crcShift (c ^^^ b.setWidth 16))))))))

/-- `crc16(m)` (R102): the left fold of `crc_upd` from 0xFFFF. -/
def crc16 (m : List Byte) : Word := m.foldl crcUpd crcStart

/-- The body of a frame: all but its two CRC bytes (spec/00_scope.md section 6). -/
def frameBody (f : List Byte) : List Byte := f.take (f.length - 2)

/-- The CRC field of a frame, low byte first (R53). -/
def frameCrc (f : List Byte) : Word := le16 (byteAt f (f.length - 2)) (byteAt f (f.length - 1))

/-- `crc_ok(f)` (R110); false for a frame of fewer than 4 bytes (DESIGN CHOICE, log entry 18). -/
def crcOk (f : List Byte) : Bool := decide (4 ≤ f.length) && crc16 (frameBody f) == frameCrc f

/-- `encode_frame(body)` (R170): the body and its CRC, low byte first. -/
def encodeFrame (body : List Byte) : List Byte := body ++ [lo (crc16 body), hi (crc16 body)]

end Sys2Proof
end

