-- ==== Sys2Proof/WellFormed.lean ====
section
/-! DEFINITION. Which instructions are well formed: the function-code sets of spec/30_encoding.md R77 and R78 and
the bounds of R75, R79, R171, R173 and R158. A well-formed instruction has an encoding of at most 256 bytes. -/

namespace Sys2Proof

/-- The supported function codes (R77, R78). -/
def supportedCodes : List Byte := [0x01#8, 0x02#8, 0x03#8, 0x04#8, 0x05#8, 0x06#8, 0x0F#8, 0x10#8]

/-- A supported function code (R77); every other value is unsupported (R78). -/
def supportedFc (fc : Byte) : Bool := supportedCodes.contains fc

/-- The exception codes the codec can send (R79, R232). -/
def legalException (code : Byte) : Bool := code == 0x01#8 || code == 0x02#8 || code == 0x03#8

/-- A REQM request's byte count is the length of its payload, and the frame of `9 + bc` bytes fits `RX_CAP`
(R75, R158: `bc` up to 247). -/
def payloadOk (bc : Byte) (data : List Byte) : Bool := bc.toNat == data.length && decide (data.length ≤ 247)

/-- The bounds of a bit read response (R171): 1 to 2000 items. -/
def bitCountOk (v : List Bool) : Bool := decide (1 ≤ v.length) && decide (v.length ≤ 2000)

/-- The bounds of a register read response (R173): 1 to 125 items. -/
def regCountOk (w : List Word) : Bool := decide (1 ≤ w.length) && decide (w.length ≤ 125)

/-- The well-formed instructions. A REQ8 request, a write echo and a CRC operation have no ill-formed operands. -/
def Instr.wellFormed : Instr → Bool
  | .readCoils _ _ _ => true
  | .readDiscreteInputs _ _ _ => true
  | .readHoldingRegisters _ _ _ => true
  | .readInputRegisters _ _ _ => true
  | .writeSingleCoil _ _ _ => true
  | .writeSingleRegister _ _ _ => true
  | .writeMultipleCoils _ _ _ bc data => payloadOk bc data
  | .writeMultipleRegisters _ _ _ bc data => payloadOk bc data
  | .readCoilsRsp _ v => bitCountOk v
  | .readDiscreteInputsRsp _ v => bitCountOk v
  | .readHoldingRegistersRsp _ w => regCountOk w
  | .readInputRegistersRsp _ w => regCountOk w
  | .writeSingleCoilRsp _ _ _ => true
  | .writeSingleRegisterRsp _ _ _ => true
  | .writeMultipleCoilsRsp _ _ _ => true
  | .writeMultipleRegistersRsp _ _ _ => true
  | .exceptionRsp _ fc code => supportedFc fc && legalException code
  | .illegalFunctionRsp _ fc => !supportedFc fc
  | .crcHold _ => true
  | .crcUpdate _ _ => true
  | .crcInit _ => true
  | .crcInitUpdate _ _ => true

end Sys2Proof
end

