-- ==== Sys2Proof/Decode.lean ====
section
/-! DEFINITION. Decoding and encoding. A word of this hardware is read in one of three places: a frame received from
the channel (R75), a frame sent to it (R76), or the control pins of a CRC generator (R81). The codec itself decodes
only the first; the other two are read back here from the same encoding tables (DEDUCED, log entry 7). -/

namespace Sys2Proof

/-- Where an instruction's bits stand, and the bits. -/
inductive Code where
  /-- a frame on the receive port (R75) -/
  | request (frame : List Byte)
  /-- a frame on the transmit port (R76) -/
  | response (frame : List Byte)
  /-- the control pins `{crc_init, crc_en}` and `crc_din` of one CRC generator (R81, R104) -/
  | crcControl (unit : CrcUnit) (crcInit crcEn : Bool) (din : Byte)
deriving DecidableEq, Repr

/-- Why a frame decodes to no instruction. -/
inductive DecodeError where
  /-- more than 256 bytes (R71, R141) -/
  | overrun
  /-- fewer than 4 bytes (R142) -/
  | short
  /-- the CRC field is not the CRC of the body (R143) -/
  | crc
  /-- the length is not the one the function code implies (R146; for a response R76) -/
  | length
  /-- a response's function code is in no row of the table (R72, R77) -/
  | function
  /-- an exception response with a code the codec cannot send (R79) -/
  | exceptionCode
deriving DecidableEq, Repr

/-! ### Received frames -/

/-- A function code whose request carries a byte count (format REQM, R75). -/
def isMultiple (fc : Byte) : Bool := fc == 0x0F#8 || fc == 0x10#8

/-- A function code of format REQ8 (R75). -/
def isReq8 (fc : Byte) : Bool := supportedFc fc && !isMultiple fc

/-- `fixed_len(fc)` (R123). -/
def fixedLen (fc : Byte) : Option Nat := if isReq8 fc then some 8 else none

/-- `length_ok(f)` (R146), for a frame with a supported function code. -/
def lengthOk (f : List Byte) : Bool :=
  if isReq8 (byteAt f 1) then f.length == 8
  else decide (9 ≤ f.length) && f.length == 9 + (byteAt f 6).toNat

/-- `decode_request(f)` (R150). -/
def decodeRequest (f : List Byte) : Request where
  addr := byteAt f 0
  fc := byteAt f 1
  a := be16 (byteAt f 2) (byteAt f 3)
  b := be16 (byteAt f 4) (byteAt f 5)
  bc := if isMultiple (byteAt f 1) then byteAt f 6 else 0
  data := if isMultiple (byteAt f 1) then (f.drop 7).take (byteAt f 6).toNat else []

/-- The instruction a Request's function code selects (R77); an unsupported code selects the codec's own
IllegalFunction response (R78). -/
def Request.instr (q : Request) : Instr :=
  if q.fc = 0x01#8 then .readCoils q.addr q.a q.b
  else if q.fc = 0x02#8 then .readDiscreteInputs q.addr q.a q.b
  else if q.fc = 0x03#8 then .readHoldingRegisters q.addr q.a q.b
  else if q.fc = 0x04#8 then .readInputRegisters q.addr q.a q.b
  else if q.fc = 0x05#8 then .writeSingleCoil q.addr q.a q.b
  else if q.fc = 0x06#8 then .writeSingleRegister q.addr q.a q.b
  else if q.fc = 0x0F#8 then .writeMultipleCoils q.addr q.a q.b q.bc q.data
  else if q.fc = 0x10#8 then .writeMultipleRegisters q.addr q.a q.b q.bc q.data
  else .illegalFunctionRsp q.addr q.fc

/-- A received frame as an instruction: the checks of R140 but for the address filter, which is the state's. -/
def decodeFrame (f : List Byte) : Except DecodeError Instr :=
  if 256 < f.length then .error .overrun
  else if f.length < 4 then .error .short
  else if !crcOk f then .error .crc
  else if supportedFc (byteAt f 1) && !lengthOk f then .error .length
  else .ok (decodeRequest f).instr

/-! ### Sent frames -/

/-- A sent frame of format RSP_BITS (R76): its byte count gives its bits in whole bytes. -/
def decodeBits (mk : List Bool → Instr) (f : List Byte) : Except DecodeError Instr :=
  if f.length == 5 + (byteAt f 2).toNat && decide (1 ≤ (byteAt f 2).toNat) && decide ((byteAt f 2).toNat ≤ 250) then
    .ok (mk (unpackBits ((f.drop 3).take (byteAt f 2).toNat) (8 * (byteAt f 2).toNat)))
  else .error .length

/-- A sent frame of format RSP_REGS (R76): its byte count is twice its number of words. -/
def decodeRegs (mk : List Word → Instr) (f : List Byte) : Except DecodeError Instr :=
  if f.length == 5 + (byteAt f 2).toNat && (byteAt f 2).toNat % 2 == 0 && decide (2 ≤ (byteAt f 2).toNat)
      && decide ((byteAt f 2).toNat ≤ 250) then
    .ok (mk (unpackWords ((f.drop 3).take (byteAt f 2).toNat)))
  else .error .length

/-- A sent frame of format RSP_ECHO (R76). -/
def decodeEcho (mk : Word → Word → Instr) (f : List Byte) : Except DecodeError Instr :=
  if f.length == 8 then .ok (mk (be16 (byteAt f 2) (byteAt f 3)) (be16 (byteAt f 4) (byteAt f 5)))
  else .error .length

/-- A sent frame of format RSP_EXC (R76). Bits 6..0 of its function code are the request's (R72): where they are a
supported code it is Exception.rsp, else IllegalFunction.rsp. -/
def decodeExc (f : List Byte) : Except DecodeError Instr :=
  if f.length ≠ 5 then .error .length
  else if supportedFc (byteAt f 1 &&& 0x7F#8) then
    if legalException (byteAt f 2) then .ok (.exceptionRsp (byteAt f 0) (byteAt f 1 &&& 0x7F#8) (byteAt f 2))
    else .error .exceptionCode
  else if byteAt f 2 = 0x01#8 then .ok (.illegalFunctionRsp (byteAt f 0) (byteAt f 1 &&& 0x7F#8))
  else .error .exceptionCode

/-- A sent frame as an instruction (R72, R76, R77). -/
def decodeSent (f : List Byte) : Except DecodeError Instr :=
  if 256 < f.length then .error .overrun
  else if f.length < 4 then .error .short
  else if !crcOk f then .error .crc
  else if (byteAt f 1).getLsbD 7 then decodeExc f
  else if byteAt f 1 = 0x01#8 then decodeBits (.readCoilsRsp (byteAt f 0)) f
  else if byteAt f 1 = 0x02#8 then decodeBits (.readDiscreteInputsRsp (byteAt f 0)) f
  else if byteAt f 1 = 0x03#8 then decodeRegs (.readHoldingRegistersRsp (byteAt f 0)) f
  else if byteAt f 1 = 0x04#8 then decodeRegs (.readInputRegistersRsp (byteAt f 0)) f
  else if byteAt f 1 = 0x05#8 then decodeEcho (.writeSingleCoilRsp (byteAt f 0)) f
  else if byteAt f 1 = 0x06#8 then decodeEcho (.writeSingleRegisterRsp (byteAt f 0)) f
  else if byteAt f 1 = 0x0F#8 then decodeEcho (.writeMultipleCoilsRsp (byteAt f 0)) f
  else if byteAt f 1 = 0x10#8 then decodeEcho (.writeMultipleRegistersRsp (byteAt f 0)) f
  else .error .function

/-! ### The CRC generator's control pins -/

/-- The operation `{crc_init, crc_en}` selects (R81); all four combinations are defined. -/
def decodeControl (unit : CrcUnit) (crcInit crcEn : Bool) (din : Byte) : Instr :=
  match crcInit, crcEn with
  | false, false => .crcHold unit
  | false, true => .crcUpdate unit din
  | true, false => .crcInit unit
  | true, true => .crcInitUpdate unit din

/-- The decoder, total on any bits. -/
def decode : Code → Except DecodeError Instr
  | .request f => decodeFrame f
  | .response f => decodeSent f
  | .crcControl unit crcInit crcEn din => .ok (decodeControl unit crcInit crcEn din)

/-! ### The encoder -/

/-- `encode_request(r)` (R185). -/
def encodeRequest (q : Request) : List Byte :=
  encodeFrame (if isMultiple q.fc then requestBodyM q.addr q.fc q.a q.b q.bc q.data
    else requestBody q.addr q.fc q.a q.b)

/-- The encoding of an instruction (R75, R76, R81). HOLD and INIT leave `crc_din` unused, and it is encoded as 0. -/
def encode : Instr → Code
  | .readCoils addr a b => .request (encodeFrame (requestBody addr 0x01#8 a b))
  | .readDiscreteInputs addr a b => .request (encodeFrame (requestBody addr 0x02#8 a b))
  | .readHoldingRegisters addr a b => .request (encodeFrame (requestBody addr 0x03#8 a b))
  | .readInputRegisters addr a b => .request (encodeFrame (requestBody addr 0x04#8 a b))
  | .writeSingleCoil addr a b => .request (encodeFrame (requestBody addr 0x05#8 a b))
  | .writeSingleRegister addr a b => .request (encodeFrame (requestBody addr 0x06#8 a b))
  | .writeMultipleCoils addr a b bc data => .request (encodeFrame (requestBodyM addr 0x0F#8 a b bc data))
  | .writeMultipleRegisters addr a b bc data => .request (encodeFrame (requestBodyM addr 0x10#8 a b bc data))
  | .readCoilsRsp addr v => .response (encodeFrame (bitsBody addr 0x01#8 v))
  | .readDiscreteInputsRsp addr v => .response (encodeFrame (bitsBody addr 0x02#8 v))
  | .readHoldingRegistersRsp addr w => .response (encodeFrame (regsBody addr 0x03#8 w))
  | .readInputRegistersRsp addr w => .response (encodeFrame (regsBody addr 0x04#8 w))
  | .writeSingleCoilRsp addr a b => .response (encodeFrame (echoBody addr 0x05#8 a b))
  | .writeSingleRegisterRsp addr a b => .response (encodeFrame (echoBody addr 0x06#8 a b))
  | .writeMultipleCoilsRsp addr a b => .response (encodeFrame (echoBody addr 0x0F#8 a b))
  | .writeMultipleRegistersRsp addr a b => .response (encodeFrame (echoBody addr 0x10#8 a b))
  | .exceptionRsp addr fc code => .response (encodeFrame (excBody addr fc code))
  | .illegalFunctionRsp addr fc => .response (encodeFrame (excBody addr fc 0x01#8))
  | .crcHold unit => .crcControl unit false false 0
  | .crcUpdate unit din => .crcControl unit false true din
  | .crcInit unit => .crcControl unit true false 0
  | .crcInitUpdate unit din => .crcControl unit true true din

/-- `encode_response(q, r)` (R183): the body for a dispatched request and the dispatcher's Response, or none where
the pair is refused. The machine reaches it through `Request.respond` and the meanings of the responses. -/
def encodeResponse (q : Request) : Response → Option (List Byte)
  | .exc c => if legalException c then some (excBody q.addr q.fc c) else none
  | .bits v => if (q.fc = 0x01#8 ∨ q.fc = 0x02#8) ∧ 1 ≤ v.length ∧ v.length ≤ 2000 then some (bitsBody q.addr q.fc v) else none
  | .regs w => if (q.fc = 0x03#8 ∨ q.fc = 0x04#8) ∧ 1 ≤ w.length ∧ w.length ≤ 125 then some (regsBody q.addr q.fc w) else none
  | .writeOk => if q.fc = 0x05#8 ∨ q.fc = 0x06#8 ∨ q.fc = 0x0F#8 ∨ q.fc = 0x10#8 then some (echoBody q.addr q.fc q.a q.b) else none

/-- The response instruction that a dispatched request and a Response select (R183); none for a Response of the
wrong kind. The bounds on its operands are the instruction's own refusals (R171 to R179). -/
def Request.respond (q : Request) : Response → Option Instr
  | .exc c => some (.exceptionRsp q.addr q.fc c)
  | .bits v =>
    if q.fc = 0x01#8 then some (.readCoilsRsp q.addr v)
    else if q.fc = 0x02#8 then some (.readDiscreteInputsRsp q.addr v)
    else none
  | .regs w =>
    if q.fc = 0x03#8 then some (.readHoldingRegistersRsp q.addr w)
    else if q.fc = 0x04#8 then some (.readInputRegistersRsp q.addr w)
    else none
  | .writeOk =>
    if q.fc = 0x05#8 then some (.writeSingleCoilRsp q.addr q.a q.b)
    else if q.fc = 0x06#8 then some (.writeSingleRegisterRsp q.addr q.a q.b)
    else if q.fc = 0x0F#8 then some (.writeMultipleCoilsRsp q.addr q.a q.b)
    else if q.fc = 0x10#8 then some (.writeMultipleRegistersRsp q.addr q.a q.b)
    else none

/-! ### The opcode table's words -/

/-- The received frame that lays out a table row's selector, frame byte 1, with every operand byte 0 and a correct
CRC. The CRC is no operand: R143 drops a frame without it, so it is filled in. -/
def tableFrame (fc : Byte) : List Byte :=
  encodeFrame (if isReq8 fc then requestBody 0 fc 0 0
    else if isMultiple fc then requestBodyM 0 fc 0 0 0 []
    else [0, fc])

/-- A table word that is the control of a CRC generator: a 2-bit value that is no supported function code. The
table's words are ambiguous (0x01 is ReadCoils, ReadCoils.rsp and CRC.UPDATE); a received frame is read first (DESIGN
CHOICE, log entry 6). -/
def isControlWord (w : Byte) : Bool := decide (w.toNat < 4) && !supportedFc w

/-- What a table word stands for: the bits laid out where the hardware reads them. A control word is the receive side's,
with `crc_din` = 0 (DESIGN CHOICE, log entry 6). -/
def tableCode (nbits w : Nat) : Option Code :=
  if nbits = 2 then some (.crcControl .rx (w.testBit 1) (w.testBit 0) 0)
  else if 8 ≤ nbits ∧ w < 256 then
    if isControlWord (BitVec.ofNat 8 w) then some (.crcControl .rx (w.testBit 1) (w.testBit 0) 0)
    else some (.request (tableFrame (BitVec.ofNat 8 w)))
  else none

/-- The instruction the decoder reads from a table row's word. -/
def decodeTableWord (nbits w : Nat) : Option Instr :=
  match tableCode nbits w with
  | some c => (decode c).toOption
  | none => none

end Sys2Proof
end

