-- ==== Sys2Proof/Machine/State.lean ====
section
/-! DEFINITION. The codec's state record (spec/10_state.md R21, R22), the reasons a step can stop, and the state
after reset (spec/70_reset_and_hazards.md R260). -/

namespace Sys2Proof.Machine

/-- The sequencer's states (R22); the 3-bit codes 6 and 7 have no value here, as R22 says. -/
inductive Fsm where
  | idle
  | receiving
  | validating
  | dispatching
  | responding
  | stopped
deriving DecidableEq, Repr, Inhabited

/-- A byte store (R50) as its written entries, by rising index. An index that is not listed holds no known byte. -/
abbrev Memory := List Host.Cell

/-- The codec's state: the fields of R21 under its names, then three fields of the model's own. -/
structure State where
  /-- `fsm` (R22) -/
  fsm : Fsm
  /-- `cfg_unit_id` (R24) -/
  cfgUnitId : Byte
  /-- `cfg_promisc` (R24) -/
  cfgPromisc : Bool
  /-- `rx_buf` (R25) -/
  rxBuf : Memory
  /-- `rx_len`, 0..256 (R25) -/
  rxLen : Nat
  /-- `rx_ovf` (R25) -/
  rxOvf : Bool
  /-- `rx_crc`, the receive-side CRC generator's register (R109) -/
  rxCrc : Word
  /-- `gap_cnt`, 0..`T35_CYCLES` (R26) -/
  gapCnt : Nat
  /-- `tx_body` (R27) -/
  txBody : Memory
  /-- `tx_len`, 0..253 (R27) -/
  txLen : Nat
  /-- `tx_idx`, 0..255 (R27) -/
  txIdx : Nat
  /-- `tx_crc`, the transmit-side CRC generator's register (R109) -/
  txCrc : Word
  /-- `stop_pending` (R28) -/
  stopPending : Bool
  /-- `ev` (R33) -/
  ev : BitVec 8
  /-- the model's own: the inputs of the cycles to come, the next one first (R10, R30) -/
  inputs : List Inputs
  /-- the model's own: how many steps were made, which numbers the free values of a cycle -/
  cycles : Nat
  /-- the model's own: when the last reset was, which numbers the free contents of the two stores -/
  epoch : Nat
deriving DecidableEq, Repr

/-- The reasons a step stops with a fault. Neither arises in a state the spec has: each says that a length field of
the model holds a number the spec's field cannot hold, so that a store would be read outside its indices (R50). -/
inductive Fault where
  /-- Raised by the VALIDATING and DISPATCHING branches, which read `rx_buf[0..rx_len-1]`, where `rx_len` is above
  256. Safe: R21 gives `rx_len` no such value. -/
  | rxIndexOutOfRange
  /-- Raised by the RESPONDING branch, which reads `tx_body[tx_idx]`, where `tx_idx` is above 252. Safe: R27 excludes
  it, since `tx_idx < tx_len ≤ 253`. -/
  | txIndexOutOfRange
deriving DecidableEq, Repr

/-- The reasons a step is refused. -/
inductive Refusal where
  /-- Raised by an arm of `exec` whose instruction has no meaning yet. Safe: nothing is claimed of it. No arm raises
  it now. -/
  | notModelled (mnemonic : String)
deriving DecidableEq, Repr

/-- The codec right after a reset cycle (R260). The spec takes `cfg_unit_id` and `cfg_promisc` from the inputs of
that cycle; both are 0 here (DESIGN CHOICE, log entry 3). -/
def State.reset : State where
  fsm := .idle
  cfgUnitId := 0
  cfgPromisc := false
  rxBuf := []
  rxLen := 0
  rxOvf := false
  rxCrc := 0xFFFF#16
  gapCnt := 0
  txBody := []
  txLen := 0
  txIdx := 0
  txCrc := 0xFFFF#16
  stopPending := false
  ev := 0
  inputs := []
  cycles := 0
  epoch := 0

end Sys2Proof.Machine
end

