-- ==== Sys2Proof/Machine/Flags.lean ====
section
/-! DEFINITION. The event vector `ev` (spec/10_state.md R33), the codec's only flags, and the codes of `fsm`. -/

namespace Sys2Proof.Machine

/-- The eight events, by the names of R33. -/
inductive Event where
  | crc
  | notAddr
  | short
  | overrun
  | length
  | illFunc
  | rxDrop
  | respErr
deriving DecidableEq, Repr

/-- The bit of `ev` an event sets (R33). -/
def Event.bit : Event → Nat
  | .crc => 0
  | .notAddr => 1
  | .short => 2
  | .overrun => 3
  | .length => 4
  | .illFunc => 5
  | .rxDrop => 6
  | .respErr => 7

/-- `1 << EV_X` (R200). -/
def Event.mask (e : Event) : BitVec 8 := 1#8 <<< e.bit

/-- `emit(EV_X)` (R33, R200). -/
def State.emit (e : Event) (s : State) : State := { s with ev := s.ev ||| e.mask }

/-- Whether an event's bit is set on the `ev` port (R33). -/
def State.hasEvent (s : State) (e : Event) : Bool := s.ev.getLsbD e.bit

/-- The 3-bit code of a sequencer state (R22). -/
def Fsm.code : Fsm → BitVec 3
  | .idle => 0
  | .receiving => 1
  | .validating => 2
  | .dispatching => 3
  | .responding => 4
  | .stopped => 5

end Sys2Proof.Machine
end

