-- ==== Sys2Proof/Machine/Ops.lean ====
section
/-! DEFINITION. The named operations over the state: the two byte stores (spec/20_memory.md R50, R52), the CRC
generators' registers (spec/40_crc.md R104 to R109), loading a response, and the two ways a frame ends. -/

namespace Sys2Proof.Machine

/-! ### Outcomes -/

/-- Go on from a next state; a fault or a refusal ends the step. -/
def andThen (o : Host.Outcome State Fault Refusal) (f : State → Host.Outcome State Fault Refusal) :
    Host.Outcome State Fault Refusal :=
  match o with
  | .next s => f s
  | .fault r => .fault r
  | .refused r => .refused r

/-! ### Byte stores -/

/-- The byte written at an index, if any was. -/
def Memory.get? : Memory → Nat → Option Byte
  | [], _ => none
  | (k, v) :: m, i => if i = k then some v else Memory.get? m i

/-- Write one byte, keeping the entries by rising index (R52). -/
def Memory.set : Memory → Nat → Byte → Memory
  | [], i, b => [(i, b)]
  | (k, v) :: m, i, b =>
    if i < k then (i, b) :: (k, v) :: m
    else if i = k then (i, b) :: m
    else (k, v) :: Memory.set m i b

/-- Write a sequence of bytes from an index on (R52). -/
def Memory.load : Memory → Nat → List Byte → Memory
  | m, _, [] => m
  | m, i, b :: bs => Memory.load (Memory.set m i b) (i + 1) bs

/-- The canonical form: the indices rise strictly from `lo` and stay below `cap`. No entry can equal what an unlisted
index reads as, since that index has no byte of its own. -/
def Memory.wfFrom (cap : Nat) : Nat → Memory → Bool
  | _, [] => true
  | lo, (k, _) :: m => decide (lo ≤ k) && decide (k < cap) && Memory.wfFrom cap (k + 1) m

/-- The canonical form of a store of `cap` bytes. -/
def Memory.wf (cap : Nat) (m : Memory) : Bool := Memory.wfFrom cap 0 m

/-- `rx_buf[i]` (R52). An entry nothing has written holds any value (R21, I3): a free one. -/
def State.rxByte (s : State) (i : Nat) : Byte := (Memory.get? s.rxBuf i).getD (Config.freeRxByte s.epoch i)

/-- `tx_body[i]` (R52). An entry nothing has written holds any value (R21, I4): a free one. -/
def State.txBodyByte (s : State) (i : Nat) : Byte := (Memory.get? s.txBody i).getD (Config.freeTxByte s.epoch i)

/-- `rx_buf[0..rx_len-1]`, the frame received so far or held (R25). -/
def State.rxFrame (s : State) : List Byte := (List.range s.rxLen).map s.rxByte

/-- `tx_body[0..n-1]` (R27). -/
def State.txPrefix (s : State) (n : Nat) : List Byte := (List.range n).map s.txBodyByte

/-- The Request that the held frame decodes to (R150, R211). -/
def State.request (s : State) : Request := decodeRequest s.rxFrame

/-! ### CRC generators -/

/-- `crc_q` of a generator: its register (R104). -/
def State.crcReg (s : State) : CrcUnit → Word
  | .rx => s.rxCrc
  | .tx => s.txCrc

/-- Load a generator's register. -/
def State.setCrc (u : CrcUnit) (c : Word) (s : State) : State :=
  { s with
    rxCrc := match u with | .rx => c | .tx => s.rxCrc
    txCrc := match u with | .rx => s.txCrc | .tx => c }

/-- `crc_q_lo` (R104). -/
def State.crcLo (s : State) (u : CrcUnit) : Byte := lo (s.crcReg u)

/-- `crc_q_hi` (R104). -/
def State.crcHi (s : State) (u : CrcUnit) : Byte := hi (s.crcReg u)

/-! ### The ends of a frame -/

/-- `idle_next` (R207), on the state whose `stop_pending` this cycle's `stop` has already set. -/
def State.idleNext (s : State) : Fsm := if s.stopPending then .stopped else .idle

/-- Done with a frame: to IDLE, or to STOPPED if a stop is pending (R207). What stands for the return from an
exception (R238). -/
def State.endFrame (s : State) : State := { s with fsm := s.idleNext }

/-- A frame or a Response is dropped in silence: its event, and the end of the frame (R147, R205). What stands for
taking an exception (R237, the first case). -/
def State.dropFrame (e : Event) (s : State) : State := (s.emit e).endFrame

/-- The dispatcher's Response cannot be serialized (R205). -/
def State.refuseResponse (s : State) : State := s.dropFrame .respErr

/-- `load_tx(body)` (R186), with CRC.INIT on the transmit side. -/
def State.loadTx (body : List Byte) (s : State) : State :=
  State.setCrc .tx crcStart
    { s with txBody := Memory.load s.txBody 0 body, txLen := body.length, txIdx := 0, fsm := .responding }

/-- The held frame goes to the dispatcher (R203): from the next cycle on `req_valid` is 1. -/
def State.presentRequest (s : State) : State := { s with fsm := .dispatching }

/-! ### Every cycle -/

/-- The inputs of this cycle: the first of the schedule, or any where it lists none. -/
def State.input (s : State) : Inputs := s.inputs.headD (Config.freeInputs s.cycles)

/-- The schedule after this cycle. -/
def State.popInput (s : State) : State := { s with inputs := s.inputs.tail }

/-- The common updates of a cycle with `rst` = 0 (R200, R26, R28, R33). -/
def State.beginCycle (t35 : Nat) (i : Inputs) (s : State) : State :=
  { s with
    gapCnt := if i.rxValid then 0 else min (s.gapCnt + 1) t35
    stopPending := s.stopPending || i.stop
    ev := 0
    cycles := s.cycles + 1 }

/-- A byte that arrives while the codec is busy is discarded with EV_RXDROP (R208). -/
def State.noteByte (i : Inputs) (s : State) : State :=
  { s with ev := if i.rxValid then s.ev ||| Event.rxDrop.mask else s.ev }

end Sys2Proof.Machine
end

