-- ==== Sys2Proof/Machine/Generator.lean ====
section
/-! DEFINITION. The meanings of the CRC generator's four operations (spec/40_crc.md R105 to R108), on the instance
the operand names (R109). -/

namespace Sys2Proof.Machine

/-- CRC.HOLD (R105): the register keeps its value. -/
def execCrcHold (u : CrcUnit) (s : State) : Host.Outcome State Fault Refusal :=
  .next (s.setCrc u (s.crcReg u))

/-- CRC.UPDATE (R106): absorb `crc_din`. -/
def execCrcUpdate (u : CrcUnit) (din : Byte) (s : State) : Host.Outcome State Fault Refusal :=
  .next (s.setCrc u (crcUpd (s.crcReg u) din))

/-- CRC.INIT (R107): load 0xFFFF. -/
def execCrcInit (u : CrcUnit) (s : State) : Host.Outcome State Fault Refusal :=
  .next (s.setCrc u crcStart)

/-- CRC.INIT_UPDATE (R108): absorb `crc_din` from 0xFFFF; the old value does not matter. -/
def execCrcInitUpdate (u : CrcUnit) (din : Byte) (s : State) : Host.Outcome State Fault Refusal :=
  .next (s.setCrc u (crcUpd crcStart din))

end Sys2Proof.Machine
end

