-- ==== Sys2Proof/Machine/Requests.lean ====
section
/-! DEFINITION. The meanings of the eight requests (spec/42_request_decode.md R151 to R158): a request that passed
every check of R140 goes to the dispatcher unchanged (R159). Its operands stay in `rx_buf`, from which the `req` port
shows them (R203), so a meaning writes none of them (DEDUCED, log entry 8). -/

namespace Sys2Proof.Machine

/-- ReadCoils (R151). -/
def execReadCoils (_addr : Byte) (_a _b : Word) (s : State) : Host.Outcome State Fault Refusal :=
  .next s.presentRequest

/-- ReadDiscreteInputs (R152). -/
def execReadDiscreteInputs (_addr : Byte) (_a _b : Word) (s : State) : Host.Outcome State Fault Refusal :=
  .next s.presentRequest

/-- ReadHoldingRegisters (R153). -/
def execReadHoldingRegisters (_addr : Byte) (_a _b : Word) (s : State) : Host.Outcome State Fault Refusal :=
  .next s.presentRequest

/-- ReadInputRegisters (R154). -/
def execReadInputRegisters (_addr : Byte) (_a _b : Word) (s : State) : Host.Outcome State Fault Refusal :=
  .next s.presentRequest

/-- WriteSingleCoil (R155). -/
def execWriteSingleCoil (_addr : Byte) (_a _b : Word) (s : State) : Host.Outcome State Fault Refusal :=
  .next s.presentRequest

/-- WriteSingleRegister (R156). -/
def execWriteSingleRegister (_addr : Byte) (_a _b : Word) (s : State) : Host.Outcome State Fault Refusal :=
  .next s.presentRequest

/-- WriteMultipleCoils (R157). -/
def execWriteMultipleCoils (_addr : Byte) (_a _b : Word) (_bc : Byte) (_data : List Byte) (s : State) :
    Host.Outcome State Fault Refusal :=
  .next s.presentRequest

/-- WriteMultipleRegisters (R158). -/
def execWriteMultipleRegisters (_addr : Byte) (_a _b : Word) (_bc : Byte) (_data : List Byte) (s : State) :
    Host.Outcome State Fault Refusal :=
  .next s.presentRequest

end Sys2Proof.Machine
end

