-- ==== Sys2Proof/Machine/Responses.lean ====
section
/-! DEFINITION. The meanings of the ten responses (spec/43_response_encode.md R171 to R179, R182): build the body and
load it for transmission (R186), or refuse it with EV_RESPERR (R183, R205). -/

namespace Sys2Proof.Machine

/-- Load an RSP_BITS body, or refuse fewer than 1 or more than 2000 bits (R171, R183). -/
def State.respondBits (addr fc : Byte) (v : List Bool) (s : State) : State :=
  if bitCountOk v then s.loadTx (bitsBody addr fc v) else s.refuseResponse

/-- Load an RSP_REGS body, or refuse fewer than 1 or more than 125 registers (R173, R183). -/
def State.respondRegs (addr fc : Byte) (w : List Word) (s : State) : State :=
  if regCountOk w then s.loadTx (regsBody addr fc w) else s.refuseResponse

/-- Load an RSP_ECHO body (R175). -/
def State.respondEcho (addr fc : Byte) (a b : Word) (s : State) : State := s.loadTx (echoBody addr fc a b)

/-- ReadCoils.rsp (R171). -/
def execReadCoilsRsp (addr : Byte) (v : List Bool) (s : State) : Host.Outcome State Fault Refusal :=
  .next (s.respondBits addr 0x01#8 v)

/-- ReadDiscreteInputs.rsp (R172). -/
def execReadDiscreteInputsRsp (addr : Byte) (v : List Bool) (s : State) : Host.Outcome State Fault Refusal :=
  .next (s.respondBits addr 0x02#8 v)

/-- ReadHoldingRegisters.rsp (R173). -/
def execReadHoldingRegistersRsp (addr : Byte) (w : List Word) (s : State) : Host.Outcome State Fault Refusal :=
  .next (s.respondRegs addr 0x03#8 w)

/-- ReadInputRegisters.rsp (R174). -/
def execReadInputRegistersRsp (addr : Byte) (w : List Word) (s : State) : Host.Outcome State Fault Refusal :=
  .next (s.respondRegs addr 0x04#8 w)

/-- WriteSingleCoil.rsp (R175). -/
def execWriteSingleCoilRsp (addr : Byte) (a b : Word) (s : State) : Host.Outcome State Fault Refusal :=
  .next (s.respondEcho addr 0x05#8 a b)

/-- WriteSingleRegister.rsp (R176). -/
def execWriteSingleRegisterRsp (addr : Byte) (a b : Word) (s : State) : Host.Outcome State Fault Refusal :=
  .next (s.respondEcho addr 0x06#8 a b)

/-- WriteMultipleCoils.rsp (R177). -/
def execWriteMultipleCoilsRsp (addr : Byte) (a b : Word) (s : State) : Host.Outcome State Fault Refusal :=
  .next (s.respondEcho addr 0x0F#8 a b)

/-- WriteMultipleRegisters.rsp (R178). -/
def execWriteMultipleRegistersRsp (addr : Byte) (a b : Word) (s : State) : Host.Outcome State Fault Refusal :=
  .next (s.respondEcho addr 0x10#8 a b)

/-- Exception.rsp from the dispatcher (R179); a code other than 1, 2 or 3 is refused. -/
def execExceptionRsp (addr fc code : Byte) (s : State) : Host.Outcome State Fault Refusal :=
  .next (if legalException code then s.loadTx (excBody addr fc code) else s.refuseResponse)

/-- IllegalFunction.rsp, the codec's own (R182), with its event EV_ILLFUNC (R145, R203; DEDUCED, log entry 9). -/
def execIllegalFunctionRsp (addr fc : Byte) (s : State) : Host.Outcome State Fault Refusal :=
  .next ((s.emit .illFunc).loadTx (excBody addr fc 0x01#8))

end Sys2Proof.Machine
end

