-- ==== Sys2Proof/Machine/Dispatch.lean ====
section
/-! DEFINITION. One arm per instruction (spec/opcode_table.json), each one direct call of its meaning. -/

namespace Sys2Proof.Machine

def exec (i : Instr) (s : State) : Host.Outcome State Fault Refusal :=
  match i with
  -- requests (R151 to R158)
  | .readCoils addr a b => Sys2Proof.Machine.execReadCoils addr a b s
  | .readDiscreteInputs addr a b => Sys2Proof.Machine.execReadDiscreteInputs addr a b s
  | .readHoldingRegisters addr a b => Sys2Proof.Machine.execReadHoldingRegisters addr a b s
  | .readInputRegisters addr a b => Sys2Proof.Machine.execReadInputRegisters addr a b s
  | .writeSingleCoil addr a b => Sys2Proof.Machine.execWriteSingleCoil addr a b s
  | .writeSingleRegister addr a b => Sys2Proof.Machine.execWriteSingleRegister addr a b s
  | .writeMultipleCoils addr a b bc data => Sys2Proof.Machine.execWriteMultipleCoils addr a b bc data s
  | .writeMultipleRegisters addr a b bc data => Sys2Proof.Machine.execWriteMultipleRegisters addr a b bc data s
  -- responses (R171 to R179, R182)
  | .readCoilsRsp addr v => Sys2Proof.Machine.execReadCoilsRsp addr v s
  | .readDiscreteInputsRsp addr v => Sys2Proof.Machine.execReadDiscreteInputsRsp addr v s
  | .readHoldingRegistersRsp addr w => Sys2Proof.Machine.execReadHoldingRegistersRsp addr w s
  | .readInputRegistersRsp addr w => Sys2Proof.Machine.execReadInputRegistersRsp addr w s
  | .writeSingleCoilRsp addr a b => Sys2Proof.Machine.execWriteSingleCoilRsp addr a b s
  | .writeSingleRegisterRsp addr a b => Sys2Proof.Machine.execWriteSingleRegisterRsp addr a b s
  | .writeMultipleCoilsRsp addr a b => Sys2Proof.Machine.execWriteMultipleCoilsRsp addr a b s
  | .writeMultipleRegistersRsp addr a b => Sys2Proof.Machine.execWriteMultipleRegistersRsp addr a b s
  | .exceptionRsp addr fc code => Sys2Proof.Machine.execExceptionRsp addr fc code s
  | .illegalFunctionRsp addr fc => Sys2Proof.Machine.execIllegalFunctionRsp addr fc s
  -- the CRC generator (R105 to R108)
  | .crcHold unit => Sys2Proof.Machine.execCrcHold unit s
  | .crcUpdate unit din => Sys2Proof.Machine.execCrcUpdate unit din s
  | .crcInit unit => Sys2Proof.Machine.execCrcInit unit s
  | .crcInitUpdate unit din => Sys2Proof.Machine.execCrcInitUpdate unit din s

end Sys2Proof.Machine
end

