-- ==== Sys2Proof/Machine/Receive.lean ====
section
/-! DEFINITION. The two receive actions and the frame boundary (spec/41_receive.md R121 to R124). -/

namespace Sys2Proof.Machine

/-- `start_frame(b)` (R121). -/
def startFrame (b : Byte) (s : State) : Host.Outcome State Fault Refusal :=
  andThen (exec (.crcInitUpdate .rx b) s) fun t =>
    .next { t with rxBuf := Memory.set t.rxBuf 0 b, rxLen := 1, rxOvf := false, fsm := .receiving }

/-- `append_byte(b)` (R122): the byte is stored and absorbed, or marks an overrun where 256 bytes are held. -/
def appendByte (b : Byte) (s : State) : Host.Outcome State Fault Refusal :=
  if s.rxLen < Config.rxCap then
    andThen (exec (.crcUpdate .rx b) s) fun t =>
      .next { t with rxBuf := Memory.set t.rxBuf t.rxLen b, rxLen := t.rxLen + 1 }
  else
    andThen (exec (.crcHold .rx) s) fun t => .next { t with rxOvf := true }

/-- `early_end` (R124), tested on the state after this cycle's byte. -/
def earlyEnd (s : State) : Bool :=
  !s.rxOvf && decide (2 ≤ s.rxLen) && fixedLen (s.rxByte 1) == some 8 && s.rxLen == 8 && crcOk s.rxFrame

/-- `gap_end` (R124), tested on the updated silence count of a cycle without a byte. -/
def gapEnd (t35 : Nat) (s : State) : Bool := s.gapCnt == t35

end Sys2Proof.Machine
end

