-- ==== Sys2Proof/Machine/Validate.lean ====
section
/-! DEFINITION. Frame validation (spec/42_request_decode.md R140 to R147). -/

namespace Sys2Proof.Machine

/-- Why a frame is ignored (R140). -/
inductive Reason where
  | overrun
  | short
  | crc
  | notAddr
  | length
deriving DecidableEq, Repr

/-- The outcome of validation (R140). -/
inductive Verdict where
  | ignore (r : Reason)
  | respondException (addr fc code : Byte)
  | dispatch (q : Request)
deriving DecidableEq, Repr

/-- `EV_of` (R203). -/
def Reason.event : Reason → Event
  | .overrun => .overrun
  | .short => .short
  | .crc => .crc
  | .notAddr => .notAddr
  | .length => .length

/-- The address filter (R144): whether a frame's address byte passes. -/
def State.addressed (s : State) (addr : Byte) : Bool := s.cfgPromisc || addr == s.cfgUnitId

/-- `validate(s)` (R140): the first check that fails decides. -/
def validate (s : State) : Verdict :=
  if s.rxOvf then .ignore .overrun
  else if s.rxLen < 4 then .ignore .short
  else if !crcOk s.rxFrame then .ignore .crc
  else if !s.addressed (byteAt s.rxFrame 0) then .ignore .notAddr
  else if !supportedFc (byteAt s.rxFrame 1) then .respondException (byteAt s.rxFrame 0) (byteAt s.rxFrame 1) 0x01#8
  else if !lengthOk s.rxFrame then .ignore .length
  else .dispatch s.request

end Sys2Proof.Machine
end

