-- ==== Sys2Proof/Machine/Sequencer.lean ====
section
/-! DEFINITION. The sequencer (spec/44_sequencer.md R200 to R209): the common updates, then one branch by `fsm`.
Every branch works on the state the common updates give, runs the instruction of its cycle through `exec` (CRC.HOLD
where no rule names another, R109; DEDUCED, log entry 17), and does its own part around it. -/

namespace Sys2Proof.Machine

/-- IDLE (R201). -/
def idleBranch (i : Inputs) (s : State) : Host.Outcome State Fault Refusal :=
  if s.stopPending then andThen (exec (.crcHold .rx) s) fun t => .next { t with fsm := .stopped }
  else if i.rxValid then startFrame i.rxData s
  else exec (.crcHold .rx) s

/-- RECEIVING (R202, R124). -/
def receivingBranch (t35 : Nat) (i : Inputs) (s : State) : Host.Outcome State Fault Refusal :=
  if i.stop then andThen (exec (.crcHold .rx) s) fun t => .next { t with fsm := .stopped }
  else if i.rxValid then
    andThen (appendByte i.rxData s) fun t => .next (if earlyEnd t then { t with fsm := .validating } else t)
  else andThen (exec (.crcHold .rx) s) fun t => .next (if gapEnd t35 t then { t with fsm := .validating } else t)

/-- VALIDATING (R203). The code of the codec's own exception is always 1 (R145), so IllegalFunction.rsp has none. -/
def validatingBranch (i : Inputs) (s : State) : Host.Outcome State Fault Refusal :=
  if s.rxLen ≤ Config.rxCap then
    match validate s with
    | .ignore r => andThen (exec (.crcHold .rx) (s.noteByte i)) fun t => .next (t.dropFrame r.event)
    | .respondException addr fc _ => exec (.illegalFunctionRsp addr fc) (s.noteByte i)
    | .dispatch q => exec q.instr (s.noteByte i)
  else .fault .rxIndexOutOfRange

/-- DISPATCHING (R204, R205). -/
def dispatchingBranch (i : Inputs) (s : State) : Host.Outcome State Fault Refusal :=
  if s.rxLen ≤ Config.rxCap then
    if i.respValid then
      match s.request.respond i.resp with
      | some r => exec r (s.noteByte i)
      | none => andThen (exec (.crcHold .tx) (s.noteByte i)) fun t => .next t.refuseResponse
    else exec (.crcHold .tx) (s.noteByte i)
  else .fault .rxIndexOutOfRange

/-- One byte was transferred (R206): the next index, and the end of the frame after the last of `tx_len + 2`. -/
def State.sentByte (s : State) : State :=
  { s with txIdx := s.txIdx + 1, fsm := if s.txIdx + 1 = s.txLen + 2 then s.idleNext else s.fsm }

/-- RESPONDING (R206). -/
def respondingBranch (i : Inputs) (s : State) : Host.Outcome State Fault Refusal :=
  if i.txReady then
    if s.txIdx < s.txLen then
      if s.txIdx < Config.txBodyCap then
        andThen (exec (.crcUpdate .tx (s.txBodyByte s.txIdx)) (s.noteByte i)) fun t => .next t.sentByte
      else .fault .txIndexOutOfRange
    else andThen (exec (.crcHold .tx) (s.noteByte i)) fun t => .next t.sentByte
  else exec (.crcHold .tx) (s.noteByte i)

/-- STOPPED (R209). -/
def stoppedBranch (s : State) : Host.Outcome State Fault Refusal := exec (.crcHold .rx) s

/-- The branch of a state (R200). -/
def branch (t35 : Nat) (i : Inputs) (s : State) : Host.Outcome State Fault Refusal :=
  match s.fsm with
  | .idle => idleBranch i s
  | .receiving => receivingBranch t35 i s
  | .validating => validatingBranch i s
  | .dispatching => dispatchingBranch i s
  | .responding => respondingBranch i s
  | .stopped => stoppedBranch s

/-- A reset cycle (R260): CRC.INIT on both generators (R109), and every other field to its reset value. The contents
of the two stores are any values (I3, I4): nothing is listed, and the free bytes are numbered anew. -/
def resetCycle (i : Inputs) (s : State) : Host.Outcome State Fault Refusal :=
  andThen (exec (.crcInit .rx) s) fun s => andThen (exec (.crcInit .tx) s) fun s =>
    .next { s with
      fsm := .idle, cfgUnitId := i.cfgUnitId, cfgPromisc := i.cfgPromisc
      rxBuf := [], rxLen := 0, rxOvf := false
      gapCnt := 0
      txBody := [], txLen := 0, txIdx := 0
      stopPending := false, ev := 0
      cycles := s.cycles + 1, epoch := s.cycles + 1 }

/-- `step(s, i)` (R200): reset where `rst` = 1, else the common updates and the branch of `s.fsm`. The silence
parameter `T35_CYCLES` is an argument, as R36 has it. -/
def codecStep (t35 : Nat) (i : Inputs) (s : State) : Host.Outcome State Fault Refusal :=
  if i.rst then resetCycle i s else branch t35 i (s.beginCycle t35 i)

/-! ### Placing one instruction for the next step -/

/-- A state whose next step validates the given frame: the frame is held as the receive path would hold it (R25),
the state is VALIDATING, and the cycle's inputs drive nothing. The frames placed so are addressed to unit 0. -/
def State.holdFrame (f : List Byte) (s : State) : State :=
  { s with
    fsm := .validating, cfgUnitId := 0
    rxBuf := Memory.load s.rxBuf 0 f, rxLen := f.length, rxOvf := false, rxCrc := crc16 f
    inputs := Inputs.quiet :: s.inputs }

/-- A state whose next step drives nothing in IDLE, and so runs CRC.HOLD (R109). -/
def State.holdIdle (s : State) : State := { s with fsm := .idle, inputs := Inputs.quiet :: s.inputs }

/-- A state whose next step performs a control word's operation on the receive side's generator. No port carries the
control pins, so a word reaches them through a cycle for which R109 names its operation (DESIGN CHOICE, log entry 5):
a silent cycle in IDLE for CRC.HOLD; the byte `din` as the second of a frame for CRC.UPDATE, and as the first of one
for CRC.INIT_UPDATE; a reset cycle that keeps the configuration for CRC.INIT. -/
def State.placeControl (crcInit crcEn : Bool) (din : Byte) (s : State) : State :=
  match crcInit, crcEn with
  | false, false => s.holdIdle
  | false, true =>
    { s with
      fsm := .receiving
      rxBuf := Memory.set s.rxBuf 0 0, rxLen := 1, rxOvf := false, rxCrc := crc16 [0]
      stopPending := false, inputs := Inputs.rxByte din :: s.inputs }
  | true, false => { s with inputs := Inputs.reset s.cfgUnitId s.cfgPromisc :: s.inputs }
  | true, true => { s with fsm := .idle, stopPending := false, inputs := Inputs.rxByte din :: s.inputs }

/-- Place what a table word stands for where the next step runs it (DESIGN CHOICE, log entry 5). A table word stands
for no sent frame and for no control word of the transmit side (`tableCode`), and none is placed. -/
def State.place (s : State) : Option Code → State
  | some (.request f) => s.holdFrame f
  | some (.response _) => s
  | some (.crcControl .rx crcInit crcEn din) => s.placeControl crcInit crcEn din
  | some (.crcControl .tx _ _ _) => s
  | none => s

end Sys2Proof.Machine
end

