-- ==== Sys2Proof/Machine/Step.lean ====
section
/-! DEFINITION. One clock cycle (spec/00_scope.md R10), and the placing of one instruction for the next step. -/

namespace Sys2Proof.Machine

/-- One clock cycle: the next inputs are taken from the schedule, and the codec steps (R10, R200). -/
def step (s : State) : Host.Outcome State Fault Refusal :=
  codecStep Config.t35Cycles s.input s.popInput

/-- The state whose next step fetches and runs the instruction of a table word (log entry 5). -/
def State.withFetchWord (s : State) (nbits w : Nat) : State := s.place (tableCode nbits w)

end Sys2Proof.Machine
end

