-- ==== Sys2Proof/Machine/Outputs.lean ====
section
/-! DEFINITION. The output ports (spec/10_state.md R31, R32), functions of the state alone (R10). -/

namespace Sys2Proof.Machine

/-- `tx_byte(s)` (R187). -/
def State.txByte (s : State) : Byte :=
  if s.txIdx < s.txLen then s.txBodyByte s.txIdx
  else if s.txIdx = s.txLen then s.crcLo .tx
  else s.crcHi .tx

/-- `tx_valid` (R31). -/
def State.txValid (s : State) : Bool := s.fsm == .responding

/-- `req_valid` (R31). -/
def State.reqValid (s : State) : Bool := s.fsm == .dispatching

/-- `busy` (R31). -/
def State.busy (s : State) : Bool := s.fsm == .validating || s.fsm == .dispatching || s.fsm == .responding

/-- The outputs of a cycle (R31). `tx_data` and `req` are any value, a free one, while they are not valid (I5, I6). -/
def State.outputs (s : State) : Outputs where
  txValid := s.txValid
  txData := if s.txValid then s.txByte else Config.freeTxData s.cycles
  reqValid := s.reqValid
  req := if s.reqValid then s.request else Config.freeReq s.cycles
  ev := s.ev
  state := s.fsm.code
  busy := s.busy
  stopped := s.fsm == .stopped

/-- `req_data_byte` of the optional read port (R32): `rx_buf[7 + req_data_idx]` while `req_valid` = 1 and
`req_data_idx < req.bc`, any value otherwise. -/
def State.reqDataByte (s : State) (idx : Byte) : Byte :=
  if s.reqValid && decide (idx.toNat < s.request.bc.toNat) then s.rxByte (7 + idx.toNat)
  else Config.freeReqData s.cycles

end Sys2Proof.Machine
end

