-- ==== Sys2Proof/Machine/Script.lean ====
section
/-! DEFINITION. The stimulus script (spec/30_encoding.md R84): each line as the inputs it drives, and what a channel
captures of a run. -/

namespace Sys2Proof.Machine

/-- The lines of a stimulus script and its pseudo-lines (R84). -/
inductive Line where
  /-- `RESET unit=<u> promisc=<p>` -/
  | reset (unit : Byte) (promisc : Bool)
  /-- `RX <byte>` -/
  | rx (b : Byte)
  /-- `IDLE <n>` -/
  | idle (n : Nat)
  /-- `RESP <kind> <args>` -/
  | resp (r : Response)
  /-- `STOP` -/
  | stop
  /-- `TXHOLD <n>` -/
  | txHold (n : Nat)
  /-- `RXF {b0 ... bk}` -/
  | rxf (body : List Byte)
  /-- `RXR <mnemonic> unit=<u> ...` -/
  | rxr (q : Request)
deriving DecidableEq, Repr

/-- The inputs a line drives, one entry per cycle (R84). -/
def Line.inputs : Line → List Inputs
  | .reset unit promisc => [Inputs.reset unit promisc]
  | .rx b => [Inputs.rxByte b]
  | .idle n => List.replicate n Inputs.quiet
  | .resp r => [{ Inputs.quiet with respValid := true, resp := r }]
  | .stop => [{ Inputs.quiet with stop := true }]
  | .txHold n => List.replicate n { Inputs.quiet with txReady := false }
  | .rxf body => (encodeFrame body).map Inputs.rxByte
  | .rxr q => (encodeRequest q).map Inputs.rxByte

/-- The schedule of a script. -/
def script (l : List Line) : List Inputs := (l.map Line.inputs).flatten

/-- The byte transferred on the transmit port in a cycle with inputs `i`, if one is (R58, R206). None is in a reset
cycle, which overrides the transfer of R206 and leaves the frame short of its end (R260, R266; DEDUCED, log entry
19). -/
def State.transferred (s : State) (i : Inputs) : Option Byte :=
  if s.txValid && i.txReady && !i.rst then some s.txByte else none

/-- What a channel captures of the next `n` cycles: the bytes transferred, in order (R188). -/
def capture : Nat → State → List Byte
  | 0, _ => []
  | n + 1, s =>
    (s.transferred s.input).toList ++
      match step s with
      | .next t => capture n t
      | .fault _ => []
      | .refused _ => []

end Sys2Proof.Machine
end

