-- ==== Sys2Proof/Safety.lean ====
section
/-! DEFINITION. What holds of the codec in every state a run reaches: the ranges of spec/10_state.md R21, the
invariants R25 and R27 give, and what R202 and R209 say of a pending stop. -/

namespace Sys2Proof.Machine

/-- A frame is being received, or is held for validation or for the dispatcher (R25). -/
def State.holdsFrame (s : State) : Prop := s.fsm = .receiving ∨ s.fsm = .validating ∨ s.fsm = .dispatching

/-- The lengths are numbers the spec's fields can hold where a store is read by them (R21, R50). -/
def State.lengthsFit (s : State) : Prop := s.rxLen ≤ Config.rxCap ∧ s.txLen ≤ Config.txBodyCap

/-- The invariant of the codec. -/
structure State.Inv (s : State) : Prop where
  /-- `rx_buf` is in canonical form, within its 256 indices (R50) -/
  rxWf : Memory.wf Config.rxCap s.rxBuf = true
  /-- `tx_body` is in canonical form, within its 253 indices (R50) -/
  txWf : Memory.wf Config.txBodyCap s.txBody = true
  /-- the ranges of `rx_len`, `tx_len`, `tx_idx` and `gap_cnt` (R21, R29) -/
  rxLenLe : s.rxLen ≤ Config.rxCap
  txLenLe : s.txLen ≤ Config.txBodyCap
  txIdxLe : s.txIdx ≤ s.txLen + 2
  gapLe : s.gapCnt ≤ Config.t35Cycles
  /-- no byte of either store is read before it is written (R52) -/
  rxWritten : ∀ i, i < s.rxLen → (Memory.get? s.rxBuf i).isSome = true
  txWritten : ∀ i, i < s.txLen → (Memory.get? s.txBody i).isSome = true
  /-- an overrun frame fills the buffer (R25 d) -/
  ovfFull : s.rxOvf = true → s.rxLen = Config.rxCap
  /-- R25 (a) and (c) -/
  frameStarted : s.holdsFrame → 1 ≤ s.rxLen
  frameCrc : s.holdsFrame → s.rxCrc = crc16 s.rxFrame
  /-- R27 (a), (b) and (c) -/
  sendLen : s.fsm = .responding → 3 ≤ s.txLen
  sendIdx : s.fsm = .responding → s.txIdx ≤ s.txLen + 1
  sendCrc : s.fsm = .responding → s.txCrc = crc16 (s.txPrefix (min s.txIdx s.txLen))
  /-- a stop is honoured before a frame starts (R202) and stays latched in STOPPED (R209) -/
  noStopReceiving : s.fsm = .receiving → s.stopPending = false
  stopInStopped : s.fsm = .stopped → s.stopPending = true
  /-- only a frame that passed every check is dispatched (R148) -/
  dispatchedValid : s.fsm = .dispatching → validate s = .dispatch s.request

/-- Nothing but the transmit fields, `fsm` and `ev` differ: what loading a response leaves as it was (R186). -/
def State.sameButTransmit (s t : State) : Prop :=
  t.cfgUnitId = s.cfgUnitId ∧ t.cfgPromisc = s.cfgPromisc ∧ t.rxBuf = s.rxBuf ∧ t.rxLen = s.rxLen ∧
  t.rxOvf = s.rxOvf ∧ t.rxCrc = s.rxCrc ∧ t.gapCnt = s.gapCnt ∧ t.stopPending = s.stopPending ∧
  t.inputs = s.inputs ∧ t.cycles = s.cycles ∧ t.epoch = s.epoch ∧ ∀ a, t.rxByte a = s.rxByte a

/-- What a response's meaning leaves behind, the body's bytes aside (R186): a body of `len` bytes is loaded, nothing of
it is sent, the transmit CRC starts anew, and every byte beyond the body and every field outside the transmit side
stays. -/
def State.loaded (s t : State) (len : Nat) : Prop :=
  t.fsm = .responding ∧ t.txLen = len ∧ t.txIdx = 0 ∧ t.txCrc = 0xFFFF#16 ∧
  (∀ a, len ≤ a → t.txBodyByte a = s.txBodyByte a) ∧ s.sameButTransmit t

end Sys2Proof.Machine
end

