-- ==== Sys2Proof/Certificates/Slice0/Obligations.lean ====
section
/-! DEFINITION. The statements for the provers, from the numbered rules of spec/. -/

open Sys2Proof Sys2Proof.Machine

/-! ### The step runs the instruction it decodes -/

/-- In VALIDATING, a held frame that passes the overrun check and the address filter and decodes to an instruction
runs it: the step is `exec` of it on the state the cycle's common updates and a dropped byte's event give (R203). -/
def Obligations.HeldFrameRunsItsInstruction : Prop :=
  ∀ (s : State) (i : Instr),
    s.fsm = .validating → s.input.rst = false → s.rxLen ≤ 256 → s.rxOvf = false →
    (s.cfgPromisc = true ∨ s.rxByte 0 = s.cfgUnitId) → decode (.request s.rxFrame) = .ok i →
    step s = exec i ((s.popInput.beginCycle Config.t35Cycles s.input).noteByte s.input)

/-- In DISPATCHING, a Response that fits its request by kind runs the response instruction they select (R204, R183). -/
def Obligations.SelectedResponseRuns : Prop :=
  ∀ (s : State) (i : Instr),
    s.fsm = .dispatching → s.input.rst = false → s.rxLen ≤ 256 → s.input.respValid = true →
    s.request.respond s.input.resp = some i →
    step s = exec i ((s.popInput.beginCycle Config.t35Cycles s.input).noteByte s.input)

/-- R109: which operation each CRC generator performs in a cycle, and CRC.HOLD in every other. A body is loaded in the
cycle that enters RESPONDING. -/
def Obligations.GeneratorsFollowTheirSchedule : Prop :=
  ∀ s t : State, step s = .next t →
    t.rxCrc = (if s.input.rst = true then 0xFFFF#16
      else if s.fsm = .idle ∧ s.input.rxValid = true ∧ s.stopPending = false ∧ s.input.stop = false then
        crcUpd 0xFFFF#16 s.input.rxData
      else if s.fsm = .receiving ∧ s.input.rxValid = true ∧ s.input.stop = false ∧ s.rxLen < 256 then
        crcUpd s.rxCrc s.input.rxData
      else s.rxCrc) ∧
    t.txCrc = (if s.input.rst = true then 0xFFFF#16
      else if s.fsm ≠ .responding ∧ t.fsm = .responding then 0xFFFF#16
      else if s.fsm = .responding ∧ s.input.txReady = true ∧ s.txIdx < s.txLen then
        crcUpd s.txCrc (s.txBodyByte s.txIdx)
      else s.txCrc)

/-! ### Requests -/

/-- The six REQ8 requests: with its frame held, the request goes to the dispatcher with its fields as received, and
nothing else changes (R151 to R156). -/
def Obligations.FixedRequestsReachTheDispatcher : Prop :=
  ∀ (addr : Byte) (a b : Word) (s : State) (fc : Byte) (i : Instr),
    (fc, i) ∈ [(0x01#8, .readCoils addr a b), (0x02#8, .readDiscreteInputs addr a b),
      (0x03#8, .readHoldingRegisters addr a b), (0x04#8, .readInputRegisters addr a b),
      (0x05#8, .writeSingleCoil addr a b), (0x06#8, .writeSingleRegister addr a b)] →
    s.rxFrame = encodeFrame [addr, fc, hi a, lo a, hi b, lo b] →
    ∃ t, exec i s = .next t ∧ t = { s with fsm := .dispatching } ∧ t.outputs.reqValid = true ∧
      t.outputs.req = { addr := addr, fc := fc, a := a, b := b, bc := 0, data := [] }

/-- The two REQM requests, with their byte count and payload (R157, R158). -/
def Obligations.MultipleRequestsReachTheDispatcher : Prop :=
  ∀ (addr : Byte) (a b : Word) (bc : Byte) (data : List Byte) (s : State) (fc : Byte) (i : Instr),
    (fc, i) ∈ [(0x0F#8, .writeMultipleCoils addr a b bc data), (0x10#8, .writeMultipleRegisters addr a b bc data)] →
    bc.toNat = data.length →
    s.rxFrame = encodeFrame ([addr, fc, hi a, lo a, hi b, lo b, bc] ++ data) →
    ∃ t, exec i s = .next t ∧ t = { s with fsm := .dispatching } ∧ t.outputs.reqValid = true ∧
      t.outputs.req = { addr := addr, fc := fc, a := a, b := b, bc := bc, data := data } ∧
      ∀ k : Byte, k.toNat < data.length → t.reqDataByte k = byteAt data k.toNat

/-- An exec of a request never ends otherwise, whatever frame is held: it only enters DISPATCHING (R203). What it does in
a state that does not hold the request's frame is the model's choice (log entry 8). -/
def Obligations.RequestsOnlyEnterDispatching : Prop :=
  ∀ (i : Instr) (f : List Byte) (s : State), encode i = .request f → exec i s = .next { s with fsm := .dispatching }

/-! ### Responses -/

/-- ReadCoils.rsp and ReadDiscreteInputs.rsp with 1 to 2000 bits load their body: address, function code, byte count,
and item `8k + j` in bit `j` of data byte `k`, the padding 0 (R171, R172, R180). -/
def Obligations.BitReadsLoadTheirBody : Prop :=
  ∀ (addr : Byte) (v : List Bool) (s : State) (fc : Byte) (i : Instr),
    (fc, i) ∈ [(0x01#8, .readCoilsRsp addr v), (0x02#8, .readDiscreteInputsRsp addr v)] →
    1 ≤ v.length → v.length ≤ 2000 →
    ∃ t, exec i s = .next t ∧ s.loaded t (3 + (v.length + 7) / 8) ∧ t.ev = s.ev ∧
      t.txBodyByte 0 = addr ∧ t.txBodyByte 1 = fc ∧ (t.txBodyByte 2).toNat = (v.length + 7) / 8 ∧
      ∀ k j, k < (v.length + 7) / 8 → j < 8 → (t.txBodyByte (3 + k)).getLsbD j = v.getD (8 * k + j) false

/-- ReadHoldingRegisters.rsp and ReadInputRegisters.rsp with 1 to 125 registers load their body: address, function
code, twice the count, and each register high byte first (R173, R174). -/
def Obligations.RegisterReadsLoadTheirBody : Prop :=
  ∀ (addr : Byte) (w : List Word) (s : State) (fc : Byte) (i : Instr),
    (fc, i) ∈ [(0x03#8, .readHoldingRegistersRsp addr w), (0x04#8, .readInputRegistersRsp addr w)] →
    1 ≤ w.length → w.length ≤ 125 →
    ∃ t, exec i s = .next t ∧ s.loaded t (3 + 2 * w.length) ∧ t.ev = s.ev ∧
      t.txBodyByte 0 = addr ∧ t.txBodyByte 1 = fc ∧ (t.txBodyByte 2).toNat = 2 * w.length ∧
      ∀ k, k < w.length → t.txBodyByte (3 + 2 * k) = hi (w.getD k 0) ∧ t.txBodyByte (4 + 2 * k) = lo (w.getD k 0)

/-- The four write responses load the echo of their request's address, `a` and `b` (R175 to R178). -/
def Obligations.WritesLoadTheirEcho : Prop :=
  ∀ (addr : Byte) (a b : Word) (s : State) (fc : Byte) (i : Instr),
    (fc, i) ∈ [(0x05#8, .writeSingleCoilRsp addr a b), (0x06#8, .writeSingleRegisterRsp addr a b),
      (0x0F#8, .writeMultipleCoilsRsp addr a b), (0x10#8, .writeMultipleRegistersRsp addr a b)] →
    ∃ t, exec i s = .next t ∧ s.loaded t 6 ∧ t.ev = s.ev ∧
      t.txPrefix 6 = [addr, fc, hi a, lo a, hi b, lo b]

/-- Exception.rsp with a code of 1, 2 or 3 loads its three bytes (R179). -/
def Obligations.ExceptionLoadsItsBody : Prop :=
  ∀ (addr fc code : Byte) (s : State), code = 0x01#8 ∨ code = 0x02#8 ∨ code = 0x03#8 →
    ∃ t, exec (.exceptionRsp addr fc code) s = .next t ∧ s.loaded t 3 ∧ t.ev = s.ev ∧
      t.txPrefix 3 = [addr, fc ||| 0x80#8, code]

/-- IllegalFunction.rsp loads its three bytes, with code 1, and emits EV_ILLFUNC (R182, R145; that the event is the
meaning's is the model's choice, log entry 9). -/
def Obligations.IllegalFunctionLoadsItsBody : Prop :=
  ∀ (addr fc : Byte) (s : State),
    ∃ t, exec (.illegalFunctionRsp addr fc) s = .next t ∧ s.loaded t 3 ∧ t.ev = s.ev ||| 0x20#8 ∧
      t.txPrefix 3 = [addr, fc ||| 0x80#8, 0x01#8]

/-- A response out of its bounds is refused: EV_RESPERR, the end of the frame, and nothing else (R171, R173, R179,
R205). -/
def Obligations.UnfitResponsesAreRefused : Prop :=
  ∀ (addr fc code : Byte) (v : List Bool) (w : List Word) (s t : State),
    t = { s with ev := s.ev ||| 0x80#8, fsm := if s.stopPending then .stopped else .idle } →
    (v.length = 0 ∨ 2000 < v.length →
      exec (.readCoilsRsp addr v) s = .next t ∧ exec (.readDiscreteInputsRsp addr v) s = .next t) ∧
    (w.length = 0 ∨ 125 < w.length →
      exec (.readHoldingRegistersRsp addr w) s = .next t ∧ exec (.readInputRegistersRsp addr w) s = .next t) ∧
    (code ≠ 0x01#8 ∧ code ≠ 0x02#8 ∧ code ≠ 0x03#8 → exec (.exceptionRsp addr fc code) s = .next t)

/-! ### The CRC generator -/

/-- R105: CRC.HOLD, its encoding with any `crc_din`, and its example. -/
def Obligations.CrcHoldKeepsTheRegister : Prop :=
  (∀ (u : CrcUnit) (din : Byte), decode (.crcControl u false false din) = .ok (.crcHold u)) ∧
  (∀ (u : CrcUnit) (s : State), exec (.crcHold u) s = .next s) ∧
  ∀ (u : CrcUnit) (s : State), s.crcReg u = 0x807E#16 →
    ∃ t, exec (.crcHold u) s = .next t ∧ t.crcReg u = 0x807E#16

/-- R106: CRC.UPDATE on either instance, its encoding, its corner cases and its example. -/
def Obligations.CrcUpdateAbsorbsAByte : Prop :=
  (∀ (u : CrcUnit) (din : Byte), decode (.crcControl u false true din) = .ok (.crcUpdate u din)) ∧
  (∀ (b : Byte) (s : State),
    exec (.crcUpdate .rx b) s = .next { s with rxCrc := crcUpd s.rxCrc b } ∧
    exec (.crcUpdate .tx b) s = .next { s with txCrc := crcUpd s.txCrc b }) ∧
  crcUpd 0xFFFF#16 0x00#8 = 0x40BF#16 ∧ crcUpd 0x0000#16 0x00#8 = 0x0000#16 ∧
  (∀ c : Word, crcUpd c (lo c) = (hi c).setWidth 16) ∧ crcUpd 0xFFFF#16 0x01#8 = 0x807E#16

/-- R107: CRC.INIT on either instance, its encoding with any `crc_din`, from any value. -/
def Obligations.CrcInitLoadsTheInitialValue : Prop :=
  (∀ (u : CrcUnit) (din : Byte), decode (.crcControl u true false din) = .ok (.crcInit u)) ∧
  ∀ s : State,
    exec (.crcInit .rx) s = .next { s with rxCrc := 0xFFFF#16 } ∧
    exec (.crcInit .tx) s = .next { s with txCrc := 0xFFFF#16 }

/-- R108: CRC.INIT_UPDATE on either instance is CRC.INIT and then CRC.UPDATE, with its encoding, its corner cases and
its example. -/
def Obligations.CrcInitUpdateStartsAFreshCrc : Prop :=
  (∀ (u : CrcUnit) (din : Byte), decode (.crcControl u true true din) = .ok (.crcInitUpdate u din)) ∧
  (∀ (b : Byte) (s : State),
    exec (.crcInitUpdate .rx b) s = .next { s with rxCrc := crcUpd 0xFFFF#16 b } ∧
    exec (.crcInitUpdate .tx b) s = .next { s with txCrc := crcUpd 0xFFFF#16 b }) ∧
  (∀ (u : CrcUnit) (b : Byte) (s t : State), exec (.crcInit u) s = .next t →
    exec (.crcInitUpdate u b) s = exec (.crcUpdate u b) t) ∧
  crcUpd 0xFFFF#16 0xFF#8 = 0x00FF#16 ∧ crcUpd 0xFFFF#16 0x00#8 = 0x40BF#16 ∧ crcUpd 0xFFFF#16 0x01#8 = 0x807E#16

/-- R102: `crc16` is the left fold of `crc_upd` from 0xFFFF, and a frame carries its body's, low byte first. -/
def Obligations.CrcIsALeftFold : Prop :=
  crc16 [] = 0xFFFF#16 ∧ (∀ (m : List Byte) (b : Byte), crc16 (m ++ [b]) = crcUpd (crc16 m) b) ∧
  ∀ (body : List Byte) (c : Word), c = crc16 body → encodeFrame body = body ++ [lo c, hi c]

/-- R103 (a): the table form of `crc_upd`. -/
def Obligations.CrcHasItsTableForm : Prop :=
  ∀ (c : Word) (b : Byte), crcUpd c b = (c >>> 8) ^^^ crcUpd 0x0000#16 ((c ^^^ b.setWidth 16).setWidth 8)

/-- R103 (c): `crc16` is affine over GF(2): the difference of two CRCs is the fold of the difference from 0. -/
def Obligations.CrcIsAffine : Prop :=
  ∀ m n : List Byte, m.length = n.length →
    crc16 m ^^^ crc16 n = (List.zipWith (· ^^^ ·) m n).foldl crcUpd 0x0000#16

/-- R103 (d): changing any one byte of a frame whose CRC is correct gives a frame whose CRC is wrong. -/
def Obligations.SingleByteErrorIsDetected : Prop :=
  ∀ (f : List Byte) (k : Nat) (b : Byte), crcOk f = true → k < f.length → b ≠ byteAt f k → crcOk (f.set k b) = false

/-- R111: a frame of 4 bytes or more passes the frame check exactly when its CRC with the CRC field is 0, and the held
frame exactly when `rx_crc` is 0. -/
def Obligations.FrameCheckIsAZeroRegister : Prop :=
  (∀ f : List Byte, 4 ≤ f.length → (crcOk f = true ↔ crc16 f = 0x0000#16)) ∧
  ∀ s : State, s.Inv → s.holdsFrame → 4 ≤ s.rxLen → (crcOk s.rxFrame = true ↔ s.rxCrc = 0x0000#16)

/-! ### Fields, encoding and decoding -/

/-- R74 and R53: 16-bit fields are assembled and disassembled big-endian, the CRC field little-endian: `be16`, `hi` and
`lo`; `a` and `b` of a received frame; `a` and `b` of a built body; the registers of a built body; the CRC field. -/
def Obligations.WordsAreBigEndianAndTheCrcLittle : Prop :=
  (∀ x y : Byte, (be16 x y).toNat = x.toNat * 256 + y.toNat ∧ hi (be16 x y) = x ∧ lo (be16 x y) = y) ∧
  (∀ w : Word, be16 (hi w) (lo w) = w) ∧
  (∀ f : List Byte,
    (decodeRequest f).a.toNat = (byteAt f 2).toNat * 256 + (byteAt f 3).toNat ∧
    (decodeRequest f).b.toNat = (byteAt f 4).toNat * 256 + (byteAt f 5).toNat) ∧
  (∀ (addr fc : Byte) (a b : Word) (bc : Byte) (data body : List Byte),
    body ∈ [requestBody addr fc a b, requestBodyM addr fc a b bc data, echoBody addr fc a b] →
    byteAt body 2 = hi a ∧ byteAt body 3 = lo a ∧ byteAt body 4 = hi b ∧ byteAt body 5 = lo b) ∧
  (∀ (addr fc : Byte) (w : List Word) (k : Nat), k < w.length →
    byteAt (regsBody addr fc w) (3 + 2 * k) = hi (w.getD k 0) ∧
    byteAt (regsBody addr fc w) (4 + 2 * k) = lo (w.getD k 0)) ∧
  (∀ f : List Byte, 2 ≤ f.length →
    (frameCrc f).toNat = (byteAt f (f.length - 1)).toNat * 256 + (byteAt f (f.length - 2)).toNat) ∧
  ∀ body : List Byte, encodeFrame body = body ++ [lo (crc16 body), hi (crc16 body)]

/-- R180: `pack_bits` gives `ceil(n/8)` bytes, each the sum of its items' powers of 2, with its example. -/
def Obligations.BitsArePackedLsbFirst : Prop :=
  (∀ v : List Bool, (packBits v).length = (v.length + 7) / 8) ∧
  (∀ (v : List Bool) (k : Nat), k < (v.length + 7) / 8 →
    (byteAt (packBits v) k).toNat =
      ∑ j ∈ Finset.range 8, if 8 * k + j < v.length ∧ v.getD (8 * k + j) false = true then 2 ^ j else 0) ∧
  packBits [true, false, true, true, false, false, true, true, true, false] = [0xCD#8, 0x01#8]

/-- R184: `unpack_bits` and `unpack_words`, item by item, and unpacking what was packed gives it back. -/
def Obligations.UnpackingReadsBackItems : Prop :=
  (∀ (d : List Byte) (n i : Nat), i < n → (n + 7) / 8 ≤ d.length →
    (unpackBits d n).getD i false = ((byteAt d (i / 8)) >>> (i % 8)).getLsbD 0) ∧
  (∀ (d : List Byte) (k : Nat), k < d.length / 2 →
    (unpackWords d).getD k 0 = be16 (byteAt d (2 * k)) (byteAt d (2 * k + 1))) ∧
  ∀ v : List Bool, unpackBits (packBits v) v.length = v

/-- Every well-formed request decodes from its encoding to itself, with every operand at every value (R75, R185). -/
def Obligations.RequestsDecodeFromTheirEncoding : Prop :=
  ∀ (i : Instr) (f : List Byte), i.wellFormed = true → encode i = .request f → decode (encode i) = .ok i

/-- A received frame that decodes to a request is the encoding of it: no bit of the frame is dropped (R75). -/
def Obligations.DecodedRequestsEncodeToTheirFrame : Prop :=
  ∀ (i : Instr) (f g : List Byte), decode (.request f) = .ok i → encode i = .request g → f = g

/-- Every instruction a frame decodes to is well formed (R75 to R79). The decoder of sent frames is the model's (log
entry 7). -/
def Obligations.DecodedInstructionsAreWellFormed : Prop :=
  ∀ (c : Code) (i : Instr), decode c = .ok i → i.wellFormed = true

/-- Well-formed register reads, write echoes and exceptions decode from their sent frames to themselves; so does an
IllegalFunction response to a code below 0x80 (R72, R76). The decoder of sent frames is the model's (log entry 7). -/
def Obligations.ResponsesDecodeFromTheirFrames : Prop :=
  ∀ (addr fc code : Byte) (a b : Word) (w : List Word) (i : Instr),
    i ∈ [.readHoldingRegistersRsp addr w, .readInputRegistersRsp addr w, .writeSingleCoilRsp addr a b,
      .writeSingleRegisterRsp addr a b, .writeMultipleCoilsRsp addr a b, .writeMultipleRegistersRsp addr a b,
      .exceptionRsp addr fc code] ∨ (i = .illegalFunctionRsp addr fc ∧ fc.toNat < 128) →
    i.wellFormed = true → decode (encode i) = .ok i

/-- Well-formed bit reads decode from their sent frames to their bits, filled up with 0 to whole bytes (R76, R180). The
decoder of sent frames is the model's (log entry 7). -/
def Obligations.BitReadsDecodeToWholeBytes : Prop :=
  ∀ (addr : Byte) (v z : List Bool), 1 ≤ v.length → v.length ≤ 2000 →
    z = List.replicate (8 * ((v.length + 7) / 8) - v.length) false →
    decode (encode (.readCoilsRsp addr v)) = .ok (.readCoilsRsp addr (v ++ z)) ∧
    decode (encode (.readDiscreteInputsRsp addr v)) = .ok (.readDiscreteInputsRsp addr (v ++ z))

/-- A received frame with a correct CRC and an unsupported function code decodes to the codec's own IllegalFunction
response, whatever its length within the bounds (R78, R145). -/
def Obligations.UnsupportedCodesAreAnswered : Prop :=
  ∀ f : List Byte, f.length ≤ 256 → crcOk f = true → byteAt f 1 ∉ supportedCodes →
    decode (.request f) = .ok (.illegalFunctionRsp (byteAt f 0) (byteAt f 1))

/-- Words written out from the spec's encodings decode to their instructions (R77, R81). The third is a sent frame, whose
decoder is the model's (log entry 7). -/
def Obligations.WrittenOutWordsDecode : Prop :=
  decode (.request [0x01#8, 0x03#8, 0x00#8, 0x64#8, 0x00#8, 0x04#8, 0x05#8, 0xD6#8])
    = .ok (.readHoldingRegisters 0x01#8 100#16 4#16) ∧
  decode (.request [0x01#8, 0x0F#8, 0x00#8, 0x13#8, 0x00#8, 0x0A#8, 0x02#8, 0xCD#8, 0x01#8, 0x72#8, 0xCB#8])
    = .ok (.writeMultipleCoils 0x01#8 19#16 10#16 0x02#8 [0xCD#8, 0x01#8]) ∧
  decode (.response [0x01#8, 0x85#8, 0x03#8, 0x02#8, 0x91#8]) = .ok (.exceptionRsp 0x01#8 0x05#8 0x03#8) ∧
  decode (.crcControl .tx true true 0x41#8) = .ok (.crcInitUpdate .tx 0x41#8)

/-! ### Reset, configuration and what every cycle does -/

/-- R260: in a cycle with `rst` = 1, whatever the state and the other inputs, every field takes its reset value. The
two buffers take any value, so nothing is said of them. -/
def Obligations.ResetWritesEveryField : Prop :=
  ∀ s : State, s.input.rst = true →
    ∃ t, step s = .next t ∧ t.fsm = .idle ∧ t.cfgUnitId = s.input.cfgUnitId ∧ t.cfgPromisc = s.input.cfgPromisc ∧
      t.rxLen = 0 ∧ t.rxOvf = false ∧ t.rxCrc = 0xFFFF#16 ∧ t.gapCnt = 0 ∧ t.txLen = 0 ∧ t.txIdx = 0 ∧
      t.txCrc = 0xFFFF#16 ∧ t.stopPending = false ∧ t.ev = 0x00#8

/-- R261: the outputs in the cycle after a reset cycle. -/
def Obligations.ResetQuietsTheOutputs : Prop :=
  ∀ s t : State, s.input.rst = true → step s = .next t →
    t.outputs.state = 0#3 ∧ t.outputs.busy = false ∧ t.outputs.stopped = false ∧ t.outputs.txValid = false ∧
    t.outputs.reqValid = false ∧ t.outputs.ev = 0x00#8

/-- The reset state is what a reset cycle with both configuration inputs 0 leaves, but for the model's own fields. The
two configuration values and the empty stores of `State.reset` are the model's choice (log entries 2 and 3). -/
def Obligations.ResetStateIsAResetCycle : Prop :=
  ∀ s : State, s.input.rst = true → s.input.cfgUnitId = 0 → s.input.cfgPromisc = false →
    ∃ t, step s = .next t ∧ State.reset = { t with inputs := [], cycles := 0, epoch := 0 }

/-- R24: the configuration registers are written only in a cycle with `rst` = 1, from the inputs of the same name. -/
def Obligations.ConfigurationIsWrittenOnlyAtReset : Prop :=
  ∀ s t : State, step s = .next t →
    (s.input.rst = true → t.cfgUnitId = s.input.cfgUnitId ∧ t.cfgPromisc = s.input.cfgPromisc) ∧
    (s.input.rst = false → t.cfgUnitId = s.cfgUnitId ∧ t.cfgPromisc = s.cfgPromisc)

/-- R26: the silence counter, in every cycle with `rst` = 0. -/
def Obligations.SilenceIsCounted : Prop :=
  ∀ s t : State, s.input.rst = false → step s = .next t →
    t.gapCnt = if s.input.rxValid = true then 0 else min (s.gapCnt + 1) Config.t35Cycles

/-- R28: a stop request is latched, and only reset clears it. -/
def Obligations.StopIsLatched : Prop :=
  ∀ s t : State, step s = .next t →
    (s.input.rst = false → t.stopPending = (s.stopPending || s.input.stop)) ∧
    (s.stopPending = true → t.stopPending = false → s.input.rst = true)

/-- R31: every output port as a function of the state. -/
def Obligations.OutputsFollowTheState : Prop :=
  ∀ s : State,
    (s.outputs.txValid = true ↔ s.fsm = .responding) ∧ (s.fsm = .responding → s.outputs.txData = s.txByte) ∧
    (s.outputs.reqValid = true ↔ s.fsm = .dispatching) ∧
    (s.fsm = .dispatching → s.outputs.req = decodeRequest s.rxFrame) ∧
    s.outputs.ev = s.ev ∧ s.outputs.state = s.fsm.code ∧
    (s.outputs.busy = true ↔ s.fsm = .validating ∨ s.fsm = .dispatching ∨ s.fsm = .responding) ∧
    (s.outputs.stopped = true ↔ s.fsm = .stopped)

/-- R213: an input that the state does not read changes nothing. In STOPPED `stop_pending` is already 1. -/
def Obligations.UnreadInputsChangeNothing : Prop :=
  ∀ (s : State) (i j : Inputs) (rest : List Inputs),
    i.rst = j.rst →
    (i.rst = true → i.cfgUnitId = j.cfgUnitId ∧ i.cfgPromisc = j.cfgPromisc) →
    (i.rst = false → i.rxValid = j.rxValid ∧
      (i.rxValid = true → s.fsm = .idle ∨ s.fsm = .receiving → i.rxData = j.rxData) ∧
      (s.fsm = .stopped → s.stopPending = true) ∧ (s.fsm ≠ .stopped → i.stop = j.stop) ∧
      (s.fsm = .responding → i.txReady = j.txReady) ∧
      (s.fsm = .dispatching → i.respValid = j.respValid ∧ (i.respValid = true → i.resp = j.resp))) →
    step { s with inputs := i :: rest } = step { s with inputs := j :: rest }

/-- R235: no cycle sets more than two event bits, and which two meet: EV_RXDROP with the event of an ignored frame, with
EV_ILLFUNC, or with EV_RESPERR. -/
def Obligations.AtMostTwoEventsMeet : Prop :=
  ∀ s t : State, step s = .next t →
    ((List.range 8).filter fun k => t.ev.getLsbD k).length ≤ 2 ∧
    (s.input.rst = false → s.fsm = .validating → s.input.rxValid = true →
      (∀ r, validate s = .ignore r → t.ev = 0x40#8 ||| r.event.mask) ∧
      ∀ addr fc code, validate s = .respondException addr fc code → t.ev = 0x60#8) ∧
    (s.input.rst = false → s.fsm = .dispatching → s.input.rxValid = true → s.input.respValid = true →
      encodeResponse s.request s.input.resp = none → t.ev = 0xC0#8)

/-! ### The sequencer -/

/-- R216: the complete transition relation for `rst` = 0, with R124's boundary conditions and R207's `idle_next`. -/
def Obligations.TransitionsFollowTheGraph : Prop :=
  ∀ (s t : State) (done : Fsm), s.input.rst = false → step s = .next t →
    done = (if s.stopPending = true ∨ s.input.stop = true then .stopped else .idle) →
    (s.fsm = .idle → t.fsm =
      if s.stopPending = true ∨ s.input.stop = true then .stopped
      else if s.input.rxValid = true then .receiving else .idle) ∧
    (s.fsm = .receiving → t.fsm =
      if s.input.stop = true then .stopped
      else if s.input.rxValid = true then
        if s.rxOvf = false ∧ s.rxLen = 7 ∧ fixedLen (s.rxByte 1) = some 8 ∧
            crcOk (s.rxFrame ++ [s.input.rxData]) = true then .validating else .receiving
      else if Config.t35Cycles ≤ s.gapCnt + 1 then .validating else .receiving) ∧
    (s.fsm = .validating → t.fsm =
      match validate s with
      | .ignore _ => done
      | .respondException _ _ _ => .responding
      | .dispatch _ => .dispatching) ∧
    (s.fsm = .dispatching → t.fsm =
      if s.input.respValid = true then
        if (encodeResponse s.request s.input.resp).isSome = true then .responding else done
      else .dispatching) ∧
    (s.fsm = .responding → t.fsm =
      if s.input.txReady = true ∧ s.txIdx + 1 = s.txLen + 2 then done else .responding) ∧
    (s.fsm = .stopped → t.fsm = .stopped)

/-- R121: `start_frame(b)`, for any byte, with every other stored byte and every other field as it was. -/
def Obligations.AnyByteStartsAFrame : Prop :=
  ∀ s : State, s.fsm = .idle → s.input.rst = false → s.input.rxValid = true → s.stopPending = false →
    s.input.stop = false →
    ∃ t, step s = .next t ∧ t.fsm = .receiving ∧ t.rxByte 0 = s.input.rxData ∧ t.rxLen = 1 ∧ t.rxOvf = false ∧
      t.rxCrc = crcUpd 0xFFFF#16 s.input.rxData ∧ (∀ a, a ≠ 0 → t.rxByte a = s.rxByte a) ∧ t.ev = 0x00#8 ∧
      t.cfgUnitId = s.cfgUnitId ∧ t.cfgPromisc = s.cfgPromisc ∧ t.txBody = s.txBody ∧ t.txLen = s.txLen ∧
      t.txIdx = s.txIdx ∧ t.txCrc = s.txCrc ∧ t.stopPending = false ∧ t.epoch = s.epoch

/-- R122: `append_byte(b)`: the byte is stored at `rx_len` and absorbed where fewer than 256 bytes are held, else it
only marks the overrun; every other stored byte and every transmit field stay; an overrun has no early boundary. -/
def Obligations.FurtherBytesAreAppended : Prop :=
  ∀ s : State, s.fsm = .receiving → s.input.rst = false → s.input.rxValid = true → s.input.stop = false →
    ∃ t, step s = .next t ∧
      (s.rxLen < 256 → t.rxByte s.rxLen = s.input.rxData ∧ t.rxLen = s.rxLen + 1 ∧
        t.rxCrc = crcUpd s.rxCrc s.input.rxData ∧ t.rxOvf = s.rxOvf) ∧
      (256 ≤ s.rxLen → t.rxByte s.rxLen = s.rxByte s.rxLen ∧ t.rxLen = s.rxLen ∧ t.rxCrc = s.rxCrc ∧
        t.rxOvf = true) ∧
      (t.rxOvf = true → t.fsm = .receiving) ∧ (∀ a, a ≠ s.rxLen → t.rxByte a = s.rxByte a) ∧ t.ev = 0x00#8 ∧
      t.cfgUnitId = s.cfgUnitId ∧ t.cfgPromisc = s.cfgPromisc ∧ t.txBody = s.txBody ∧ t.txLen = s.txLen ∧
      t.txIdx = s.txIdx ∧ t.txCrc = s.txCrc ∧ t.stopPending = s.stopPending ∧ t.epoch = s.epoch

/-- In VALIDATING the first failing check decides, in the order of R140 and R234, with the effects of R147: an ignored
frame only emits its event and ends; an unsupported code is answered; else the Request is presented. -/
def Obligations.FirstFailingCheckDecides : Prop :=
  ∀ (s : State) (f : List Byte) (drop : BitVec 8) (ends : State → BitVec 8 → Prop),
    s.fsm = .validating → s.input.rst = false → s.rxLen ≤ 256 → f = s.rxFrame →
    drop = (if s.input.rxValid = true then 0x40#8 else 0x00#8) →
    (ends = fun t e => t.ev = drop ||| e ∧ t.txBody = s.txBody ∧ t.txLen = s.txLen ∧ t.txIdx = s.txIdx ∧
      t.txCrc = s.txCrc ∧ t.fsm = if s.stopPending = true ∨ s.input.stop = true then .stopped else .idle) →
    ∃ t, step s = .next t ∧ t.rxBuf = s.rxBuf ∧ t.rxLen = s.rxLen ∧ t.rxOvf = s.rxOvf ∧ t.rxCrc = s.rxCrc ∧
      if s.rxOvf = true then ends t 0x08#8
      else if s.rxLen < 4 then ends t 0x04#8
      else if crc16 (f.take (s.rxLen - 2)) ≠ le16 (byteAt f (s.rxLen - 2)) (byteAt f (s.rxLen - 1)) then ends t 0x01#8
      else if s.cfgPromisc = false ∧ byteAt f 0 ≠ s.cfgUnitId then ends t 0x02#8
      else if byteAt f 1 ∉ supportedCodes then
        t.ev = drop ||| 0x20#8 ∧ t.fsm = .responding ∧ t.txLen = 3 ∧ t.txIdx = 0 ∧ t.txCrc = 0xFFFF#16 ∧
          t.txPrefix 3 = [byteAt f 0, byteAt f 1 ||| 0x80#8, 0x01#8]
      else if (if fixedLen (byteAt f 1) = some 8 then s.rxLen ≠ 8
          else s.rxLen < 9 ∨ s.rxLen ≠ 9 + (byteAt f 6).toNat) then ends t 0x10#8
      else t.ev = drop ∧ t.fsm = .dispatching ∧ t.request = decodeRequest f ∧ t.txBody = s.txBody ∧
        t.txLen = s.txLen ∧ t.txIdx = s.txIdx ∧ t.txCrc = s.txCrc

/-- In DISPATCHING the step loads exactly the body of R183, or refuses the Response as R205 says; the response
instructions together are `encode_response`. -/
def Obligations.DispatchingLoadsTheEncodedResponse : Prop :=
  ∀ s : State, s.fsm = .dispatching → s.input.rst = false → s.rxLen ≤ 256 → s.input.respValid = true →
    ∃ t, step s = .next t ∧ t.rxBuf = s.rxBuf ∧ t.rxLen = s.rxLen ∧
      match encodeResponse s.request s.input.resp with
      | some body => t.fsm = .responding ∧ t.txLen = body.length ∧ t.txPrefix t.txLen = body ∧ t.txIdx = 0 ∧
          t.txCrc = 0xFFFF#16 ∧ t.ev = (if s.input.rxValid = true then 0x40#8 else 0x00#8)
      | none => t.fsm = (if s.stopPending = true ∨ s.input.stop = true then .stopped else .idle) ∧
          t.ev = (if s.input.rxValid = true then 0xC0#8 else 0x80#8) ∧ t.txBody = s.txBody ∧ t.txLen = s.txLen ∧
          t.txIdx = s.txIdx ∧ t.txCrc = s.txCrc

/-- R59: the Request on `req` does not change while `fsm` = DISPATCHING. The held frame is written only by a byte that
IDLE or RECEIVING takes and by a reset: every cycle without reset outside these two states leaves it as it was, and so
does each of theirs that takes no byte (silence, R126; a stop, R201 and R202), with every field but `fsm`, `gap_cnt`,
`stop_pending` and `ev`. -/
def Obligations.HeldRequestDoesNotChange : Prop :=
  (∀ s t : State, s.fsm = .dispatching → step s = .next t → t.fsm = .dispatching → t.outputs.req = s.outputs.req) ∧
  (∀ s t : State, s.fsm ≠ .idle → s.fsm ≠ .receiving → s.input.rst = false → step s = .next t →
    t.rxBuf = s.rxBuf ∧ t.rxLen = s.rxLen ∧ t.rxFrame = s.rxFrame) ∧
  ∀ s : State, s.input.rst = false →
    (s.fsm = .idle ∧ (s.input.rxValid = false ∨ s.stopPending = true ∨ s.input.stop = true)) ∨
      (s.fsm = .receiving ∧ (s.input.rxValid = false ∨ s.input.stop = true)) →
    ∃ t, step s = .next t ∧ t.rxBuf = s.rxBuf ∧ t.rxLen = s.rxLen ∧ t.rxFrame = s.rxFrame ∧ t.rxOvf = s.rxOvf ∧
      t.rxCrc = s.rxCrc ∧ t.txBody = s.txBody ∧ t.txLen = s.txLen ∧ t.txIdx = s.txIdx ∧ t.txCrc = s.txCrc ∧
      t.cfgUnitId = s.cfgUnitId ∧ t.cfgPromisc = s.cfgPromisc ∧ t.ev = 0x00#8

/-- A dispatcher that does not answer leaves the codec in DISPATCHING for as many cycles as it takes, with the same
Request and with a stop latched but not honoured (R215). -/
def Obligations.SilentDispatcherHoldsTheCodec : Prop :=
  ∀ (n : Nat) (s : State), s.fsm = .dispatching → s.rxLen ≤ 256 → n ≤ s.inputs.length →
    (∀ i ∈ s.inputs.take n, i.rst = false ∧ i.respValid = false) →
    ∃ t, core.run n s = .next t ∧ State.fsm t = .dispatching ∧ State.request t = s.request ∧
      (State.stopPending t = true ↔ s.stopPending = true ∨ ∃ i ∈ s.inputs.take n, i.stop = true)

/-- R206: in RESPONDING a byte is transferred exactly in a cycle with `tx_ready` = 1, with its effect on the index, the
CRC and the end of the frame; a stall changes nothing but `gap_cnt`, `stop_pending` and `ev`. -/
def Obligations.TransfersAdvanceAndStallsHold : Prop :=
  ∀ (s t : State), s.fsm = .responding → s.input.rst = false → step s = .next t →
    t.txBody = s.txBody ∧ t.txLen = s.txLen ∧ t.rxBuf = s.rxBuf ∧ t.rxLen = s.rxLen ∧ t.rxOvf = s.rxOvf ∧
    t.rxCrc = s.rxCrc ∧ t.cfgUnitId = s.cfgUnitId ∧ t.cfgPromisc = s.cfgPromisc ∧
    t.ev = (if s.input.rxValid = true then 0x40#8 else 0x00#8) ∧
    (s.transferred s.input = if s.input.txReady = true then some s.txByte else none) ∧
    (s.input.txReady = true → t.txIdx = s.txIdx + 1 ∧
      t.txCrc = (if s.txIdx < s.txLen then crcUpd s.txCrc (s.txBodyByte s.txIdx) else s.txCrc) ∧
      t.fsm = (if s.txIdx + 1 = s.txLen + 2 then
        if s.stopPending = true ∨ s.input.stop = true then .stopped else .idle else .responding)) ∧
    (s.input.txReady = false → t.txIdx = s.txIdx ∧ t.txCrc = s.txCrc ∧ t.fsm = .responding ∧ t.txByte = s.txByte)

/-- R208: a byte received while busy is stored nowhere, enters no CRC and starts no frame: it only sets EV_RXDROP and
clears the silence counter. -/
def Obligations.BytesWhileBusyAreDiscarded : Prop :=
  ∀ (s t : State) (i : Inputs) (rest : List Inputs),
    s.fsm = .validating ∨ s.fsm = .dispatching ∨ s.fsm = .responding → i.rst = false → i.rxValid = false →
    step { s with inputs := i :: rest } = .next t →
    ∀ b : Byte, step { s with inputs := { i with rxValid := true, rxData := b } :: rest }
      = .next { t with ev := t.ev ||| 0x40#8, gapCnt := 0 }

/-- R209: STOPPED is absorbing: only `gap_cnt`, `stop_pending` and the model's own schedule move. -/
def Obligations.StoppedOnlyCountsSilence : Prop :=
  ∀ s : State, s.fsm = .stopped → s.input.rst = false →
    step s = .next { s with
      gapCnt := if s.input.rxValid = true then 0 else min (s.gapCnt + 1) Config.t35Cycles
      stopPending := s.stopPending || s.input.stop
      ev := 0x00#8, inputs := s.inputs.tail, cycles := s.cycles + 1 }

/-- R181: every body the codec builds has 3 to 253 bytes, by the formats' lengths. -/
def Obligations.BodiesHaveTheirLengths : Prop :=
  (∀ (q : Request) (r : Response) (body : List Byte), encodeResponse q r = some body →
    body.length = match r with
      | .exc _ => 3
      | .writeOk => 6
      | .bits v => 3 + (v.length + 7) / 8
      | .regs w => 3 + 2 * w.length) ∧
  ∀ s t : State, step s = .next t → s.fsm ≠ .responding → t.fsm = .responding →
    3 ≤ t.txLen ∧ t.txLen ≤ 253 ∧ 5 ≤ (encodeFrame (t.txPrefix t.txLen)).length ∧
    (encodeFrame (t.txPrefix t.txLen)).length ≤ 255

/-- R232: a response whose function code byte has bit 7 set carries exactly one of the codes 1, 2 and 3. -/
def Obligations.ExceptionCodesOnTheWire : Prop :=
  ∀ s t : State, step s = .next t → s.fsm ≠ .responding → t.fsm = .responding →
    (t.txBodyByte 1).getLsbD 7 = true →
    t.txLen = 3 ∧ (t.txBodyByte 2 = 0x01#8 ∨ t.txBodyByte 2 = 0x02#8 ∨ t.txBodyByte 2 = 0x03#8)

/-- R162: every response carries the request's own address byte, which is `cfg_unit_id` where `cfg_promisc` = 0. -/
def Obligations.ResponsesCarryTheRequestAddress : Prop :=
  ∀ s t : State, s.Inv → step s = .next t → s.fsm ≠ .responding → t.fsm = .responding →
    t.txBodyByte 0 = byteAt s.rxFrame 0 ∧ (s.cfgPromisc = false → t.txBodyByte 0 = s.cfgUnitId)

/-! ### Whole runs and invariants -/

/-- The invariant of the codec (R21, R25, R27, R52, R148, R202, R209) holds at reset. -/
def Obligations.InvariantHoldsAtReset : Prop := State.reset.Inv

/-- Every step keeps the invariant of the codec (R21, R25, R27, R52, R148, R202, R209). -/
def Obligations.EveryStepKeepsTheInvariant : Prop :=
  ∀ s t : State, s.Inv → step s = .next t → t.Inv

/-- Every step keeps both stores in canonical form, within their indices (R50, R52). -/
def Obligations.StoresStayCanonical : Prop :=
  ∀ s t : State, Memory.wf 256 s.rxBuf = true → Memory.wf 253 s.txBody = true → step s = .next t →
    Memory.wf 256 t.rxBuf = true ∧ Memory.wf 253 t.txBody = true

/-- The step is total wherever the lengths are numbers the spec's fields can hold, and always in a reset cycle
(R10). -/
def Obligations.EveryCycleHasANextState : Prop :=
  ∀ s : State, (s.rxLen ≤ 256 ∧ s.txLen ≤ 253) ∨ s.input.rst = true → ∃ t, step s = .next t

/-- R160: a request delivered to the codec in IDLE, one byte per cycle, then silence, is validated as exactly that
request: in the cycle after its 8th byte for FC1 to FC6, after the silence gap for FC15 and FC16. -/
def Obligations.DeliveredRequestsAreDispatched : Prop :=
  ∀ (q : Request) (s : State) (bytes quiet rest : List Inputs),
    supportedFc q.fc = true →
    (isMultiple q.fc = false → q.bc = 0 ∧ q.data = []) →
    (isMultiple q.fc = true → q.bc.toNat = q.data.length ∧ q.data.length ≤ 247) →
    (s.cfgPromisc = true ∨ q.addr = s.cfgUnitId) → s.fsm = .idle → s.stopPending = false →
    bytes.map Inputs.rxData = encodeRequest q → quiet.length = Config.t35Cycles →
    (∀ i ∈ bytes, i.rst = false ∧ i.stop = false ∧ i.rxValid = true) →
    (∀ i ∈ quiet, i.rst = false ∧ i.stop = false ∧ i.rxValid = false) →
    s.inputs = bytes ++ quiet ++ rest →
    ∃ t, core.run (if isMultiple q.fc = true then bytes.length + quiet.length else 8) s = .next t ∧
      State.fsm t = .validating ∧ validate t = .dispatch q

/-- R161: a request frame with any one byte changed is ignored for its CRC, but where byte 1 of an FC15 or FC16 frame
becomes a code of 1 to 6. -/
def Obligations.CorruptedRequestsAreDropped : Prop :=
  ∀ (q : Request) (s : State) (k : Nat) (b : Byte) (bytes quiet rest : List Inputs),
    supportedFc q.fc = true →
    (isMultiple q.fc = false → q.bc = 0 ∧ q.data = []) →
    (isMultiple q.fc = true → q.bc.toNat = q.data.length ∧ q.data.length ≤ 247) →
    s.fsm = .idle → s.stopPending = false →
    k < (encodeRequest q).length → b ≠ byteAt (encodeRequest q) k →
    ¬ (k = 1 ∧ isMultiple q.fc = true ∧ isReq8 b = true) →
    bytes.map Inputs.rxData = (encodeRequest q).set k b → quiet.length = Config.t35Cycles →
    (∀ i ∈ bytes, i.rst = false ∧ i.stop = false ∧ i.rxValid = true) →
    (∀ i ∈ quiet, i.rst = false ∧ i.stop = false ∧ i.rxValid = false) →
    s.inputs = bytes ++ quiet ++ rest →
    ∃ t, core.run (bytes.length + quiet.length) s = .next t ∧ State.fsm t = .validating ∧ validate t = .ignore .crc

/-- R188: the bytes transferred in a RESPONDING interval are exactly the frame of the loaded body, each once and in
order whatever the stalls and stop requests, and the interval ends with the `tx_len + 2`-th transfer. A reset cycle
before that transfer ends the frame after fewer bytes (R266); that the byte it offers is not transferred is the
model's reading (log entry 19). -/
def Obligations.TransmittedBytesAreTheFrame : Prop :=
  ∀ (n : Nat) (s : State) (ready : Nat → Nat), s.Inv → s.fsm = .responding → s.txIdx = 0 → n ≤ s.inputs.length →
    (∀ i ∈ s.inputs.take n, i.rst = false) →
    (∀ k, ready k = ((s.inputs.take k).filter Inputs.txReady).length) → ready n ≤ s.txLen + 2 →
    ∃ t, core.run n s = .next t ∧
      capture n s = (encodeFrame (s.txPrefix s.txLen)).take (ready n) ∧
      (ready n < s.txLen + 2 → State.fsm t = .responding) ∧
      (0 < n → ready n = s.txLen + 2 → ready (n - 1) = s.txLen + 1 → State.fsm t = .idle ∨ State.fsm t = .stopped) ∧
      (ready n < s.txLen + 2 → ∀ i, s.inputs[n]? = some i → i.rst = true →
        capture (n + 1) s = (encodeFrame (s.txPrefix s.txLen)).take (ready n) ∧
        (capture (n + 1) s).length < s.txLen + 2)
end

