-- ==== Sys2Proof/Laws/Operands.lean ====
section
/-! SUPPORT. Field assembly and the lengths of the bodies. -/

namespace Sys2Proof

@[simp] theorem be16_toNat (x y : Byte) : (be16 x y).toNat = x.toNat * 256 + y.toNat := by
  have hx := x.isLt
  have hy := y.isLt
  simp only [be16, BitVec.toNat_ofNat]; omega

theorem hi_toNat (w : Word) : (hi w).toNat = w.toNat / 256 := by
  have hw := w.isLt
  simp only [hi, BitVec.extractLsb'_toNat, Nat.shiftRight_eq_div_pow]; omega

theorem lo_toNat (w : Word) : (lo w).toNat = w.toNat % 256 := by
  simp only [lo, BitVec.extractLsb'_toNat, Nat.shiftRight_eq_div_pow]; omega

theorem le16_eq_be16 (x y : Byte) : le16 x y = be16 y x := rfl

@[simp] theorem hi_be16 (x y : Byte) : hi (be16 x y) = x := by
  have hy := y.isLt
  apply BitVec.eq_of_toNat_eq; rw [hi_toNat, be16_toNat]; omega

@[simp] theorem lo_be16 (x y : Byte) : lo (be16 x y) = y := by
  have hy := y.isLt
  apply BitVec.eq_of_toNat_eq; rw [lo_toNat, be16_toNat]; omega

@[simp] theorem be16_hi_lo (w : Word) : be16 (hi w) (lo w) = w := by
  apply BitVec.eq_of_toNat_eq; rw [be16_toNat, hi_toNat, lo_toNat]; omega

@[simp] theorem le16_lo_hi (w : Word) : le16 (lo w) (hi w) = w := be16_hi_lo w

@[simp] theorem packBits_length (v : List Bool) : (packBits v).length = byteCount v.length := by simp [packBits]

@[simp] theorem wordBytes_length (w : List Word) : (wordBytes w).length = 2 * w.length := by
  induction w with
  | nil => rfl
  | cons x w ih => simp [wordBytes, ih]; omega

@[simp] theorem unpackBits_length (d : List Byte) (n : Nat) : (unpackBits d n).length = n := by simp [unpackBits]

@[simp] theorem unpackWords_wordBytes (w : List Word) : unpackWords (wordBytes w) = w := by
  induction w with
  | nil => rfl
  | cons x w ih => simp [wordBytes, unpackWords, ih]

@[simp] theorem requestBody_length (addr fc : Byte) (a b : Word) : (requestBody addr fc a b).length = 6 := rfl

@[simp] theorem requestBodyM_length (addr fc : Byte) (a b : Word) (bc : Byte) (data : List Byte) :
    (requestBodyM addr fc a b bc data).length = 7 + data.length := by
  simp [requestBodyM]; omega

@[simp] theorem bitsBody_length (addr fc : Byte) (v : List Bool) :
    (bitsBody addr fc v).length = 3 + byteCount v.length := by simp [bitsBody]; omega

@[simp] theorem regsBody_length (addr fc : Byte) (w : List Word) :
    (regsBody addr fc w).length = 3 + 2 * w.length := by simp [regsBody]; omega

@[simp] theorem echoBody_length (addr fc : Byte) (a b : Word) : (echoBody addr fc a b).length = 6 := rfl

@[simp] theorem excBody_length (addr fc code : Byte) : (excBody addr fc code).length = 3 := rfl

theorem bitCountOk_iff (v : List Bool) : bitCountOk v = true ↔ 1 ≤ v.length ∧ v.length ≤ 2000 := by simp [bitCountOk]

theorem regCountOk_iff (w : List Word) : regCountOk w = true ↔ 1 ≤ w.length ∧ w.length ≤ 125 := by simp [regCountOk]

theorem payloadOk_iff (bc : Byte) (data : List Byte) :
    payloadOk bc data = true ↔ bc.toNat = data.length ∧ data.length ≤ 247 := by simp [payloadOk]

theorem legalException_iff (c : Byte) : legalException c = true ↔ c = 0x01#8 ∨ c = 0x02#8 ∨ c = 0x03#8 := by
  simp [legalException, or_assoc]

theorem supportedFc_iff (fc : Byte) : supportedFc fc = true ↔
    fc = 0x01#8 ∨ fc = 0x02#8 ∨ fc = 0x03#8 ∨ fc = 0x04#8 ∨ fc = 0x05#8 ∨ fc = 0x06#8 ∨ fc = 0x0F#8 ∨ fc = 0x10#8 := by
  simp [supportedFc, supportedCodes]

theorem isMultiple_iff (fc : Byte) : isMultiple fc = true ↔ fc = 0x0F#8 ∨ fc = 0x10#8 := by simp [isMultiple]

theorem isReq8_iff (fc : Byte) : isReq8 fc = true ↔
    fc = 0x01#8 ∨ fc = 0x02#8 ∨ fc = 0x03#8 ∨ fc = 0x04#8 ∨ fc = 0x05#8 ∨ fc = 0x06#8 := by
  revert fc; decide

/-- Every body the codec builds has 3 to 253 bytes (R181). -/
theorem encodeResponse_length {q : Request} {r : Response} {body : List Byte} (h : encodeResponse q r = some body) :
    3 ≤ body.length ∧ body.length ≤ 253 := by
  cases r <;> simp only [encodeResponse] at h <;> split at h <;> simp only [Option.some.injEq, reduceCtorEq] at h <;>
    subst h
  · rename_i hb; simp [byteCount]; omega
  · rename_i hb; simp; omega
  · simp
  · simp

end Sys2Proof
end

