-- ==== Sys2Proof/Laws/Crc.lean ====
section
/-! SUPPORT. The CRC as a fold, and the frame check on an assembled frame. -/

namespace Sys2Proof

@[simp] theorem crc16_nil : crc16 [] = crcStart := rfl

theorem crc16_append (m n : List Byte) : crc16 (m ++ n) = n.foldl crcUpd (crc16 m) := by simp [crc16]

@[simp] theorem crc16_concat (m : List Byte) (b : Byte) : crc16 (m ++ [b]) = crcUpd (crc16 m) b := by simp [crc16]

@[simp] theorem encodeFrame_length (body : List Byte) : (encodeFrame body).length = body.length + 2 := by
  simp [encodeFrame]

@[simp] theorem frameBody_encodeFrame (body : List Byte) : frameBody (encodeFrame body) = body := by
  simp [frameBody, encodeFrame]

@[simp] theorem frameCrc_encodeFrame (body : List Byte) : frameCrc (encodeFrame body) = crc16 body := by
  have h1 : byteAt (encodeFrame body) body.length = lo (crc16 body) := by simp [byteAt, encodeFrame]
  have h2 : byteAt (encodeFrame body) (body.length + 1) = hi (crc16 body) := by simp [byteAt, encodeFrame]
  simp [frameCrc, h1, h2]

/-- An assembled frame passes the frame check (R110, R170). -/
theorem crcOk_encodeFrame {body : List Byte} (h : 2 ≤ body.length) : crcOk (encodeFrame body) = true := by
  simp [crcOk, h]

theorem byteAt_encodeFrame {body : List Byte} {i : Nat} (h : i < body.length) :
    byteAt (encodeFrame body) i = byteAt body i := by
  simp [byteAt, encodeFrame, List.getD_eq_getElem?_getD, List.getElem?_append_left h]

/-- A frame that passes the check is its body and the body's CRC (R110). -/
theorem encodeFrame_frameBody {f : List Byte} (h : crcOk f = true) : encodeFrame (frameBody f) = f := by
  simp only [crcOk, Bool.and_eq_true, decide_eq_true_eq, beq_iff_eq] at h
  obtain ⟨hl, hc⟩ := h
  have e1 : f.length - 2 < f.length := by omega
  have e2 : f.length - 1 < f.length := by omega
  have hlo : lo (frameCrc f) = byteAt f (f.length - 2) := lo_be16 _ _
  have hhi : hi (frameCrc f) = byteAt f (f.length - 1) := hi_be16 _ _
  rw [encodeFrame, hc, hlo, hhi, frameBody]
  apply List.ext_getElem
  · simp; omega
  · intro i h1 h2
    rcases Nat.lt_trichotomy i (f.length - 2) with hi | hi | hi
    · rw [List.getElem_append_left (by simp; omega)]; simp
    · subst hi
      rw [List.getElem_append_right (by simp)]
      simp [byteAt, List.getD_eq_getElem?_getD, e1]
    · have hi' : i = f.length - 1 := by omega
      subst hi'
      rw [List.getElem_append_right (by simp; omega)]
      have : f.length - 1 - (f.length - 2) = 1 := by omega
      simp [this, byteAt, List.getD_eq_getElem?_getD, e2]

end Sys2Proof
end

