-- ==== Sys2Proof/Laws/State.lean ====
section
/-! SUPPORT. One lemma per field per update of the state, true by `rfl`, so that no proof unfolds a record update. -/

namespace Sys2Proof.Machine

/-! ### emit -/

@[simp] theorem State.emit_fsm (e : Event) (s : State) : (s.emit e).fsm = s.fsm := rfl
@[simp] theorem State.emit_cfgUnitId (e : Event) (s : State) : (s.emit e).cfgUnitId = s.cfgUnitId := rfl
@[simp] theorem State.emit_cfgPromisc (e : Event) (s : State) : (s.emit e).cfgPromisc = s.cfgPromisc := rfl
@[simp] theorem State.emit_rxBuf (e : Event) (s : State) : (s.emit e).rxBuf = s.rxBuf := rfl
@[simp] theorem State.emit_rxLen (e : Event) (s : State) : (s.emit e).rxLen = s.rxLen := rfl
@[simp] theorem State.emit_rxOvf (e : Event) (s : State) : (s.emit e).rxOvf = s.rxOvf := rfl
@[simp] theorem State.emit_rxCrc (e : Event) (s : State) : (s.emit e).rxCrc = s.rxCrc := rfl
@[simp] theorem State.emit_gapCnt (e : Event) (s : State) : (s.emit e).gapCnt = s.gapCnt := rfl
@[simp] theorem State.emit_txBody (e : Event) (s : State) : (s.emit e).txBody = s.txBody := rfl
@[simp] theorem State.emit_txLen (e : Event) (s : State) : (s.emit e).txLen = s.txLen := rfl
@[simp] theorem State.emit_txIdx (e : Event) (s : State) : (s.emit e).txIdx = s.txIdx := rfl
@[simp] theorem State.emit_txCrc (e : Event) (s : State) : (s.emit e).txCrc = s.txCrc := rfl
@[simp] theorem State.emit_stopPending (e : Event) (s : State) : (s.emit e).stopPending = s.stopPending := rfl
@[simp] theorem State.emit_ev (e : Event) (s : State) : (s.emit e).ev = s.ev ||| e.mask := rfl
@[simp] theorem State.emit_inputs (e : Event) (s : State) : (s.emit e).inputs = s.inputs := rfl
@[simp] theorem State.emit_cycles (e : Event) (s : State) : (s.emit e).cycles = s.cycles := rfl
@[simp] theorem State.emit_epoch (e : Event) (s : State) : (s.emit e).epoch = s.epoch := rfl

/-! ### setCrc -/

@[simp] theorem State.setCrc_fsm (u : CrcUnit) (c : Word) (s : State) : (s.setCrc u c).fsm = s.fsm := rfl
@[simp] theorem State.setCrc_cfgUnitId (u : CrcUnit) (c : Word) (s : State) : (s.setCrc u c).cfgUnitId = s.cfgUnitId := rfl
@[simp] theorem State.setCrc_cfgPromisc (u : CrcUnit) (c : Word) (s : State) : (s.setCrc u c).cfgPromisc = s.cfgPromisc := rfl
@[simp] theorem State.setCrc_rxBuf (u : CrcUnit) (c : Word) (s : State) : (s.setCrc u c).rxBuf = s.rxBuf := rfl
@[simp] theorem State.setCrc_rxLen (u : CrcUnit) (c : Word) (s : State) : (s.setCrc u c).rxLen = s.rxLen := rfl
@[simp] theorem State.setCrc_rxOvf (u : CrcUnit) (c : Word) (s : State) : (s.setCrc u c).rxOvf = s.rxOvf := rfl
@[simp] theorem State.setCrc_gapCnt (u : CrcUnit) (c : Word) (s : State) : (s.setCrc u c).gapCnt = s.gapCnt := rfl
@[simp] theorem State.setCrc_txBody (u : CrcUnit) (c : Word) (s : State) : (s.setCrc u c).txBody = s.txBody := rfl
@[simp] theorem State.setCrc_txLen (u : CrcUnit) (c : Word) (s : State) : (s.setCrc u c).txLen = s.txLen := rfl
@[simp] theorem State.setCrc_txIdx (u : CrcUnit) (c : Word) (s : State) : (s.setCrc u c).txIdx = s.txIdx := rfl
@[simp] theorem State.setCrc_stopPending (u : CrcUnit) (c : Word) (s : State) : (s.setCrc u c).stopPending = s.stopPending := rfl
@[simp] theorem State.setCrc_ev (u : CrcUnit) (c : Word) (s : State) : (s.setCrc u c).ev = s.ev := rfl
@[simp] theorem State.setCrc_inputs (u : CrcUnit) (c : Word) (s : State) : (s.setCrc u c).inputs = s.inputs := rfl
@[simp] theorem State.setCrc_cycles (u : CrcUnit) (c : Word) (s : State) : (s.setCrc u c).cycles = s.cycles := rfl
@[simp] theorem State.setCrc_epoch (u : CrcUnit) (c : Word) (s : State) : (s.setCrc u c).epoch = s.epoch := rfl

@[simp] theorem State.setCrc_rx_rxCrc (c : Word) (s : State) : (s.setCrc .rx c).rxCrc = c := rfl
@[simp] theorem State.setCrc_tx_rxCrc (c : Word) (s : State) : (s.setCrc .tx c).rxCrc = s.rxCrc := rfl
@[simp] theorem State.setCrc_rx_txCrc (c : Word) (s : State) : (s.setCrc .rx c).txCrc = s.txCrc := rfl
@[simp] theorem State.setCrc_tx_txCrc (c : Word) (s : State) : (s.setCrc .tx c).txCrc = c := rfl
@[simp] theorem State.crcReg_rx (s : State) : s.crcReg .rx = s.rxCrc := rfl
@[simp] theorem State.crcReg_tx (s : State) : s.crcReg .tx = s.txCrc := rfl

/-- CRC.HOLD is no change at all (R105). -/
@[simp] theorem State.setCrc_crcReg (u : CrcUnit) (s : State) : s.setCrc u (s.crcReg u) = s := by cases u <;> rfl

/-! ### endFrame -/

@[simp] theorem State.endFrame_fsm (s : State) : (s.endFrame).fsm = s.idleNext := rfl
@[simp] theorem State.endFrame_cfgUnitId (s : State) : (s.endFrame).cfgUnitId = s.cfgUnitId := rfl
@[simp] theorem State.endFrame_cfgPromisc (s : State) : (s.endFrame).cfgPromisc = s.cfgPromisc := rfl
@[simp] theorem State.endFrame_rxBuf (s : State) : (s.endFrame).rxBuf = s.rxBuf := rfl
@[simp] theorem State.endFrame_rxLen (s : State) : (s.endFrame).rxLen = s.rxLen := rfl
@[simp] theorem State.endFrame_rxOvf (s : State) : (s.endFrame).rxOvf = s.rxOvf := rfl
@[simp] theorem State.endFrame_rxCrc (s : State) : (s.endFrame).rxCrc = s.rxCrc := rfl
@[simp] theorem State.endFrame_gapCnt (s : State) : (s.endFrame).gapCnt = s.gapCnt := rfl
@[simp] theorem State.endFrame_txBody (s : State) : (s.endFrame).txBody = s.txBody := rfl
@[simp] theorem State.endFrame_txLen (s : State) : (s.endFrame).txLen = s.txLen := rfl
@[simp] theorem State.endFrame_txIdx (s : State) : (s.endFrame).txIdx = s.txIdx := rfl
@[simp] theorem State.endFrame_txCrc (s : State) : (s.endFrame).txCrc = s.txCrc := rfl
@[simp] theorem State.endFrame_stopPending (s : State) : (s.endFrame).stopPending = s.stopPending := rfl
@[simp] theorem State.endFrame_ev (s : State) : (s.endFrame).ev = s.ev := rfl
@[simp] theorem State.endFrame_inputs (s : State) : (s.endFrame).inputs = s.inputs := rfl
@[simp] theorem State.endFrame_cycles (s : State) : (s.endFrame).cycles = s.cycles := rfl
@[simp] theorem State.endFrame_epoch (s : State) : (s.endFrame).epoch = s.epoch := rfl

/-! ### dropFrame -/

@[simp] theorem State.dropFrame_fsm (e : Event) (s : State) : (s.dropFrame e).fsm = s.idleNext := rfl
@[simp] theorem State.dropFrame_cfgUnitId (e : Event) (s : State) : (s.dropFrame e).cfgUnitId = s.cfgUnitId := rfl
@[simp] theorem State.dropFrame_cfgPromisc (e : Event) (s : State) : (s.dropFrame e).cfgPromisc = s.cfgPromisc := rfl
@[simp] theorem State.dropFrame_rxBuf (e : Event) (s : State) : (s.dropFrame e).rxBuf = s.rxBuf := rfl
@[simp] theorem State.dropFrame_rxLen (e : Event) (s : State) : (s.dropFrame e).rxLen = s.rxLen := rfl
@[simp] theorem State.dropFrame_rxOvf (e : Event) (s : State) : (s.dropFrame e).rxOvf = s.rxOvf := rfl
@[simp] theorem State.dropFrame_rxCrc (e : Event) (s : State) : (s.dropFrame e).rxCrc = s.rxCrc := rfl
@[simp] theorem State.dropFrame_gapCnt (e : Event) (s : State) : (s.dropFrame e).gapCnt = s.gapCnt := rfl
@[simp] theorem State.dropFrame_txBody (e : Event) (s : State) : (s.dropFrame e).txBody = s.txBody := rfl
@[simp] theorem State.dropFrame_txLen (e : Event) (s : State) : (s.dropFrame e).txLen = s.txLen := rfl
@[simp] theorem State.dropFrame_txIdx (e : Event) (s : State) : (s.dropFrame e).txIdx = s.txIdx := rfl
@[simp] theorem State.dropFrame_txCrc (e : Event) (s : State) : (s.dropFrame e).txCrc = s.txCrc := rfl
@[simp] theorem State.dropFrame_stopPending (e : Event) (s : State) : (s.dropFrame e).stopPending = s.stopPending := rfl
@[simp] theorem State.dropFrame_ev (e : Event) (s : State) : (s.dropFrame e).ev = s.ev ||| e.mask := rfl
@[simp] theorem State.dropFrame_inputs (e : Event) (s : State) : (s.dropFrame e).inputs = s.inputs := rfl
@[simp] theorem State.dropFrame_cycles (e : Event) (s : State) : (s.dropFrame e).cycles = s.cycles := rfl
@[simp] theorem State.dropFrame_epoch (e : Event) (s : State) : (s.dropFrame e).epoch = s.epoch := rfl

/-! ### refuseResponse -/

@[simp] theorem State.refuseResponse_fsm (s : State) : (s.refuseResponse).fsm = s.idleNext := rfl
@[simp] theorem State.refuseResponse_cfgUnitId (s : State) : (s.refuseResponse).cfgUnitId = s.cfgUnitId := rfl
@[simp] theorem State.refuseResponse_cfgPromisc (s : State) : (s.refuseResponse).cfgPromisc = s.cfgPromisc := rfl
@[simp] theorem State.refuseResponse_rxBuf (s : State) : (s.refuseResponse).rxBuf = s.rxBuf := rfl
@[simp] theorem State.refuseResponse_rxLen (s : State) : (s.refuseResponse).rxLen = s.rxLen := rfl
@[simp] theorem State.refuseResponse_rxOvf (s : State) : (s.refuseResponse).rxOvf = s.rxOvf := rfl
@[simp] theorem State.refuseResponse_rxCrc (s : State) : (s.refuseResponse).rxCrc = s.rxCrc := rfl
@[simp] theorem State.refuseResponse_gapCnt (s : State) : (s.refuseResponse).gapCnt = s.gapCnt := rfl
@[simp] theorem State.refuseResponse_txBody (s : State) : (s.refuseResponse).txBody = s.txBody := rfl
@[simp] theorem State.refuseResponse_txLen (s : State) : (s.refuseResponse).txLen = s.txLen := rfl
@[simp] theorem State.refuseResponse_txIdx (s : State) : (s.refuseResponse).txIdx = s.txIdx := rfl
@[simp] theorem State.refuseResponse_txCrc (s : State) : (s.refuseResponse).txCrc = s.txCrc := rfl
@[simp] theorem State.refuseResponse_stopPending (s : State) : (s.refuseResponse).stopPending = s.stopPending := rfl
@[simp] theorem State.refuseResponse_ev (s : State) : (s.refuseResponse).ev = s.ev ||| Event.respErr.mask := rfl
@[simp] theorem State.refuseResponse_inputs (s : State) : (s.refuseResponse).inputs = s.inputs := rfl
@[simp] theorem State.refuseResponse_cycles (s : State) : (s.refuseResponse).cycles = s.cycles := rfl
@[simp] theorem State.refuseResponse_epoch (s : State) : (s.refuseResponse).epoch = s.epoch := rfl

/-! ### loadTx -/

@[simp] theorem State.loadTx_fsm (body : List Byte) (s : State) : (s.loadTx body).fsm = .responding := rfl
@[simp] theorem State.loadTx_cfgUnitId (body : List Byte) (s : State) : (s.loadTx body).cfgUnitId = s.cfgUnitId := rfl
@[simp] theorem State.loadTx_cfgPromisc (body : List Byte) (s : State) : (s.loadTx body).cfgPromisc = s.cfgPromisc := rfl
@[simp] theorem State.loadTx_rxBuf (body : List Byte) (s : State) : (s.loadTx body).rxBuf = s.rxBuf := rfl
@[simp] theorem State.loadTx_rxLen (body : List Byte) (s : State) : (s.loadTx body).rxLen = s.rxLen := rfl
@[simp] theorem State.loadTx_rxOvf (body : List Byte) (s : State) : (s.loadTx body).rxOvf = s.rxOvf := rfl
@[simp] theorem State.loadTx_rxCrc (body : List Byte) (s : State) : (s.loadTx body).rxCrc = s.rxCrc := rfl
@[simp] theorem State.loadTx_gapCnt (body : List Byte) (s : State) : (s.loadTx body).gapCnt = s.gapCnt := rfl
@[simp] theorem State.loadTx_txBody (body : List Byte) (s : State) : (s.loadTx body).txBody = Memory.load s.txBody 0 body := rfl
@[simp] theorem State.loadTx_txLen (body : List Byte) (s : State) : (s.loadTx body).txLen = body.length := rfl
@[simp] theorem State.loadTx_txIdx (body : List Byte) (s : State) : (s.loadTx body).txIdx = 0 := rfl
@[simp] theorem State.loadTx_txCrc (body : List Byte) (s : State) : (s.loadTx body).txCrc = crcStart := rfl
@[simp] theorem State.loadTx_stopPending (body : List Byte) (s : State) : (s.loadTx body).stopPending = s.stopPending := rfl
@[simp] theorem State.loadTx_ev (body : List Byte) (s : State) : (s.loadTx body).ev = s.ev := rfl
@[simp] theorem State.loadTx_inputs (body : List Byte) (s : State) : (s.loadTx body).inputs = s.inputs := rfl
@[simp] theorem State.loadTx_cycles (body : List Byte) (s : State) : (s.loadTx body).cycles = s.cycles := rfl
@[simp] theorem State.loadTx_epoch (body : List Byte) (s : State) : (s.loadTx body).epoch = s.epoch := rfl

/-! ### presentRequest -/

@[simp] theorem State.presentRequest_fsm (s : State) : (s.presentRequest).fsm = .dispatching := rfl
@[simp] theorem State.presentRequest_cfgUnitId (s : State) : (s.presentRequest).cfgUnitId = s.cfgUnitId := rfl
@[simp] theorem State.presentRequest_cfgPromisc (s : State) : (s.presentRequest).cfgPromisc = s.cfgPromisc := rfl
@[simp] theorem State.presentRequest_rxBuf (s : State) : (s.presentRequest).rxBuf = s.rxBuf := rfl
@[simp] theorem State.presentRequest_rxLen (s : State) : (s.presentRequest).rxLen = s.rxLen := rfl
@[simp] theorem State.presentRequest_rxOvf (s : State) : (s.presentRequest).rxOvf = s.rxOvf := rfl
@[simp] theorem State.presentRequest_rxCrc (s : State) : (s.presentRequest).rxCrc = s.rxCrc := rfl
@[simp] theorem State.presentRequest_gapCnt (s : State) : (s.presentRequest).gapCnt = s.gapCnt := rfl
@[simp] theorem State.presentRequest_txBody (s : State) : (s.presentRequest).txBody = s.txBody := rfl
@[simp] theorem State.presentRequest_txLen (s : State) : (s.presentRequest).txLen = s.txLen := rfl
@[simp] theorem State.presentRequest_txIdx (s : State) : (s.presentRequest).txIdx = s.txIdx := rfl
@[simp] theorem State.presentRequest_txCrc (s : State) : (s.presentRequest).txCrc = s.txCrc := rfl
@[simp] theorem State.presentRequest_stopPending (s : State) : (s.presentRequest).stopPending = s.stopPending := rfl
@[simp] theorem State.presentRequest_ev (s : State) : (s.presentRequest).ev = s.ev := rfl
@[simp] theorem State.presentRequest_inputs (s : State) : (s.presentRequest).inputs = s.inputs := rfl
@[simp] theorem State.presentRequest_cycles (s : State) : (s.presentRequest).cycles = s.cycles := rfl
@[simp] theorem State.presentRequest_epoch (s : State) : (s.presentRequest).epoch = s.epoch := rfl

/-! ### popInput -/

@[simp] theorem State.popInput_fsm (s : State) : (s.popInput).fsm = s.fsm := rfl
@[simp] theorem State.popInput_cfgUnitId (s : State) : (s.popInput).cfgUnitId = s.cfgUnitId := rfl
@[simp] theorem State.popInput_cfgPromisc (s : State) : (s.popInput).cfgPromisc = s.cfgPromisc := rfl
@[simp] theorem State.popInput_rxBuf (s : State) : (s.popInput).rxBuf = s.rxBuf := rfl
@[simp] theorem State.popInput_rxLen (s : State) : (s.popInput).rxLen = s.rxLen := rfl
@[simp] theorem State.popInput_rxOvf (s : State) : (s.popInput).rxOvf = s.rxOvf := rfl
@[simp] theorem State.popInput_rxCrc (s : State) : (s.popInput).rxCrc = s.rxCrc := rfl
@[simp] theorem State.popInput_gapCnt (s : State) : (s.popInput).gapCnt = s.gapCnt := rfl
@[simp] theorem State.popInput_txBody (s : State) : (s.popInput).txBody = s.txBody := rfl
@[simp] theorem State.popInput_txLen (s : State) : (s.popInput).txLen = s.txLen := rfl
@[simp] theorem State.popInput_txIdx (s : State) : (s.popInput).txIdx = s.txIdx := rfl
@[simp] theorem State.popInput_txCrc (s : State) : (s.popInput).txCrc = s.txCrc := rfl
@[simp] theorem State.popInput_stopPending (s : State) : (s.popInput).stopPending = s.stopPending := rfl
@[simp] theorem State.popInput_ev (s : State) : (s.popInput).ev = s.ev := rfl
@[simp] theorem State.popInput_inputs (s : State) : (s.popInput).inputs = s.inputs.tail := rfl
@[simp] theorem State.popInput_cycles (s : State) : (s.popInput).cycles = s.cycles := rfl
@[simp] theorem State.popInput_epoch (s : State) : (s.popInput).epoch = s.epoch := rfl

/-! ### beginCycle -/

@[simp] theorem State.beginCycle_fsm (t35 : Nat) (i : Inputs) (s : State) : (s.beginCycle t35 i).fsm = s.fsm := rfl
@[simp] theorem State.beginCycle_cfgUnitId (t35 : Nat) (i : Inputs) (s : State) : (s.beginCycle t35 i).cfgUnitId = s.cfgUnitId := rfl
@[simp] theorem State.beginCycle_cfgPromisc (t35 : Nat) (i : Inputs) (s : State) : (s.beginCycle t35 i).cfgPromisc = s.cfgPromisc := rfl
@[simp] theorem State.beginCycle_rxBuf (t35 : Nat) (i : Inputs) (s : State) : (s.beginCycle t35 i).rxBuf = s.rxBuf := rfl
@[simp] theorem State.beginCycle_rxLen (t35 : Nat) (i : Inputs) (s : State) : (s.beginCycle t35 i).rxLen = s.rxLen := rfl
@[simp] theorem State.beginCycle_rxOvf (t35 : Nat) (i : Inputs) (s : State) : (s.beginCycle t35 i).rxOvf = s.rxOvf := rfl
@[simp] theorem State.beginCycle_rxCrc (t35 : Nat) (i : Inputs) (s : State) : (s.beginCycle t35 i).rxCrc = s.rxCrc := rfl
@[simp] theorem State.beginCycle_gapCnt (t35 : Nat) (i : Inputs) (s : State) : (s.beginCycle t35 i).gapCnt = if i.rxValid then 0 else min (s.gapCnt + 1) t35 := rfl
@[simp] theorem State.beginCycle_txBody (t35 : Nat) (i : Inputs) (s : State) : (s.beginCycle t35 i).txBody = s.txBody := rfl
@[simp] theorem State.beginCycle_txLen (t35 : Nat) (i : Inputs) (s : State) : (s.beginCycle t35 i).txLen = s.txLen := rfl
@[simp] theorem State.beginCycle_txIdx (t35 : Nat) (i : Inputs) (s : State) : (s.beginCycle t35 i).txIdx = s.txIdx := rfl
@[simp] theorem State.beginCycle_txCrc (t35 : Nat) (i : Inputs) (s : State) : (s.beginCycle t35 i).txCrc = s.txCrc := rfl
@[simp] theorem State.beginCycle_stopPending (t35 : Nat) (i : Inputs) (s : State) : (s.beginCycle t35 i).stopPending = (s.stopPending || i.stop) := rfl
@[simp] theorem State.beginCycle_ev (t35 : Nat) (i : Inputs) (s : State) : (s.beginCycle t35 i).ev = 0 := rfl
@[simp] theorem State.beginCycle_inputs (t35 : Nat) (i : Inputs) (s : State) : (s.beginCycle t35 i).inputs = s.inputs := rfl
@[simp] theorem State.beginCycle_cycles (t35 : Nat) (i : Inputs) (s : State) : (s.beginCycle t35 i).cycles = s.cycles + 1 := rfl
@[simp] theorem State.beginCycle_epoch (t35 : Nat) (i : Inputs) (s : State) : (s.beginCycle t35 i).epoch = s.epoch := rfl

/-! ### noteByte -/

@[simp] theorem State.noteByte_fsm (i : Inputs) (s : State) : (s.noteByte i).fsm = s.fsm := rfl
@[simp] theorem State.noteByte_cfgUnitId (i : Inputs) (s : State) : (s.noteByte i).cfgUnitId = s.cfgUnitId := rfl
@[simp] theorem State.noteByte_cfgPromisc (i : Inputs) (s : State) : (s.noteByte i).cfgPromisc = s.cfgPromisc := rfl
@[simp] theorem State.noteByte_rxBuf (i : Inputs) (s : State) : (s.noteByte i).rxBuf = s.rxBuf := rfl
@[simp] theorem State.noteByte_rxLen (i : Inputs) (s : State) : (s.noteByte i).rxLen = s.rxLen := rfl
@[simp] theorem State.noteByte_rxOvf (i : Inputs) (s : State) : (s.noteByte i).rxOvf = s.rxOvf := rfl
@[simp] theorem State.noteByte_rxCrc (i : Inputs) (s : State) : (s.noteByte i).rxCrc = s.rxCrc := rfl
@[simp] theorem State.noteByte_gapCnt (i : Inputs) (s : State) : (s.noteByte i).gapCnt = s.gapCnt := rfl
@[simp] theorem State.noteByte_txBody (i : Inputs) (s : State) : (s.noteByte i).txBody = s.txBody := rfl
@[simp] theorem State.noteByte_txLen (i : Inputs) (s : State) : (s.noteByte i).txLen = s.txLen := rfl
@[simp] theorem State.noteByte_txIdx (i : Inputs) (s : State) : (s.noteByte i).txIdx = s.txIdx := rfl
@[simp] theorem State.noteByte_txCrc (i : Inputs) (s : State) : (s.noteByte i).txCrc = s.txCrc := rfl
@[simp] theorem State.noteByte_stopPending (i : Inputs) (s : State) : (s.noteByte i).stopPending = s.stopPending := rfl
@[simp] theorem State.noteByte_ev (i : Inputs) (s : State) : (s.noteByte i).ev = if i.rxValid then s.ev ||| Event.rxDrop.mask else s.ev := rfl
@[simp] theorem State.noteByte_inputs (i : Inputs) (s : State) : (s.noteByte i).inputs = s.inputs := rfl
@[simp] theorem State.noteByte_cycles (i : Inputs) (s : State) : (s.noteByte i).cycles = s.cycles := rfl
@[simp] theorem State.noteByte_epoch (i : Inputs) (s : State) : (s.noteByte i).epoch = s.epoch := rfl

/-! ### sentByte -/

@[simp] theorem State.sentByte_fsm (s : State) : (s.sentByte).fsm = if s.txIdx + 1 = s.txLen + 2 then s.idleNext else s.fsm := rfl
@[simp] theorem State.sentByte_cfgUnitId (s : State) : (s.sentByte).cfgUnitId = s.cfgUnitId := rfl
@[simp] theorem State.sentByte_cfgPromisc (s : State) : (s.sentByte).cfgPromisc = s.cfgPromisc := rfl
@[simp] theorem State.sentByte_rxBuf (s : State) : (s.sentByte).rxBuf = s.rxBuf := rfl
@[simp] theorem State.sentByte_rxLen (s : State) : (s.sentByte).rxLen = s.rxLen := rfl
@[simp] theorem State.sentByte_rxOvf (s : State) : (s.sentByte).rxOvf = s.rxOvf := rfl
@[simp] theorem State.sentByte_rxCrc (s : State) : (s.sentByte).rxCrc = s.rxCrc := rfl
@[simp] theorem State.sentByte_gapCnt (s : State) : (s.sentByte).gapCnt = s.gapCnt := rfl
@[simp] theorem State.sentByte_txBody (s : State) : (s.sentByte).txBody = s.txBody := rfl
@[simp] theorem State.sentByte_txLen (s : State) : (s.sentByte).txLen = s.txLen := rfl
@[simp] theorem State.sentByte_txIdx (s : State) : (s.sentByte).txIdx = s.txIdx + 1 := rfl
@[simp] theorem State.sentByte_txCrc (s : State) : (s.sentByte).txCrc = s.txCrc := rfl
@[simp] theorem State.sentByte_stopPending (s : State) : (s.sentByte).stopPending = s.stopPending := rfl
@[simp] theorem State.sentByte_ev (s : State) : (s.sentByte).ev = s.ev := rfl
@[simp] theorem State.sentByte_inputs (s : State) : (s.sentByte).inputs = s.inputs := rfl
@[simp] theorem State.sentByte_cycles (s : State) : (s.sentByte).cycles = s.cycles := rfl
@[simp] theorem State.sentByte_epoch (s : State) : (s.sentByte).epoch = s.epoch := rfl

/-! ### Derived reads -/

@[simp] theorem State.input_cons (i : Inputs) (l : List Inputs) (s : State) :
    State.input { s with inputs := i :: l } = i := rfl
@[simp] theorem State.idleNext_emit (e : Event) (s : State) : (s.emit e).idleNext = s.idleNext := rfl
@[simp] theorem State.idleNext_noteByte (i : Inputs) (s : State) : (s.noteByte i).idleNext = s.idleNext := rfl
@[simp] theorem State.idleNext_setCrc (u : CrcUnit) (c : Word) (s : State) : (s.setCrc u c).idleNext = s.idleNext := rfl

@[simp] theorem State.rxByte_emit (e : Event) (s : State) : (s.emit e).rxByte = s.rxByte := rfl
@[simp] theorem State.rxFrame_emit (e : Event) (s : State) : (s.emit e).rxFrame = s.rxFrame := rfl
@[simp] theorem State.request_emit (e : Event) (s : State) : (s.emit e).request = s.request := rfl
@[simp] theorem validate_emit (e : Event) (s : State) : validate (s.emit e) = validate s := rfl
@[simp] theorem State.txBodyByte_emit (e : Event) (s : State) : (s.emit e).txBodyByte = s.txBodyByte := rfl
@[simp] theorem State.txPrefix_emit (e : Event) (s : State) : (s.emit e).txPrefix = s.txPrefix := rfl
@[simp] theorem State.rxByte_setCrc (u : CrcUnit) (c : Word) (s : State) : (s.setCrc u c).rxByte = s.rxByte := rfl
@[simp] theorem State.rxFrame_setCrc (u : CrcUnit) (c : Word) (s : State) : (s.setCrc u c).rxFrame = s.rxFrame := rfl
@[simp] theorem State.request_setCrc (u : CrcUnit) (c : Word) (s : State) : (s.setCrc u c).request = s.request := rfl
@[simp] theorem validate_setCrc (u : CrcUnit) (c : Word) (s : State) : validate (s.setCrc u c) = validate s := rfl
@[simp] theorem State.txBodyByte_setCrc (u : CrcUnit) (c : Word) (s : State) : (s.setCrc u c).txBodyByte = s.txBodyByte := rfl
@[simp] theorem State.txPrefix_setCrc (u : CrcUnit) (c : Word) (s : State) : (s.setCrc u c).txPrefix = s.txPrefix := rfl
@[simp] theorem State.rxByte_endFrame (s : State) : (s.endFrame).rxByte = s.rxByte := rfl
@[simp] theorem State.rxFrame_endFrame (s : State) : (s.endFrame).rxFrame = s.rxFrame := rfl
@[simp] theorem State.request_endFrame (s : State) : (s.endFrame).request = s.request := rfl
@[simp] theorem validate_endFrame (s : State) : validate (s.endFrame) = validate s := rfl
@[simp] theorem State.txBodyByte_endFrame (s : State) : (s.endFrame).txBodyByte = s.txBodyByte := rfl
@[simp] theorem State.txPrefix_endFrame (s : State) : (s.endFrame).txPrefix = s.txPrefix := rfl
@[simp] theorem State.rxByte_dropFrame (e : Event) (s : State) : (s.dropFrame e).rxByte = s.rxByte := rfl
@[simp] theorem State.rxFrame_dropFrame (e : Event) (s : State) : (s.dropFrame e).rxFrame = s.rxFrame := rfl
@[simp] theorem State.request_dropFrame (e : Event) (s : State) : (s.dropFrame e).request = s.request := rfl
@[simp] theorem validate_dropFrame (e : Event) (s : State) : validate (s.dropFrame e) = validate s := rfl
@[simp] theorem State.txBodyByte_dropFrame (e : Event) (s : State) : (s.dropFrame e).txBodyByte = s.txBodyByte := rfl
@[simp] theorem State.txPrefix_dropFrame (e : Event) (s : State) : (s.dropFrame e).txPrefix = s.txPrefix := rfl
@[simp] theorem State.rxByte_refuseResponse (s : State) : (s.refuseResponse).rxByte = s.rxByte := rfl
@[simp] theorem State.rxFrame_refuseResponse (s : State) : (s.refuseResponse).rxFrame = s.rxFrame := rfl
@[simp] theorem State.request_refuseResponse (s : State) : (s.refuseResponse).request = s.request := rfl
@[simp] theorem validate_refuseResponse (s : State) : validate (s.refuseResponse) = validate s := rfl
@[simp] theorem State.txBodyByte_refuseResponse (s : State) : (s.refuseResponse).txBodyByte = s.txBodyByte := rfl
@[simp] theorem State.txPrefix_refuseResponse (s : State) : (s.refuseResponse).txPrefix = s.txPrefix := rfl
@[simp] theorem State.rxByte_loadTx (body : List Byte) (s : State) : (s.loadTx body).rxByte = s.rxByte := rfl
@[simp] theorem State.rxFrame_loadTx (body : List Byte) (s : State) : (s.loadTx body).rxFrame = s.rxFrame := rfl
@[simp] theorem State.request_loadTx (body : List Byte) (s : State) : (s.loadTx body).request = s.request := rfl
@[simp] theorem validate_loadTx (body : List Byte) (s : State) : validate (s.loadTx body) = validate s := rfl
@[simp] theorem State.rxByte_presentRequest (s : State) : (s.presentRequest).rxByte = s.rxByte := rfl
@[simp] theorem State.rxFrame_presentRequest (s : State) : (s.presentRequest).rxFrame = s.rxFrame := rfl
@[simp] theorem State.request_presentRequest (s : State) : (s.presentRequest).request = s.request := rfl
@[simp] theorem validate_presentRequest (s : State) : validate (s.presentRequest) = validate s := rfl
@[simp] theorem State.txBodyByte_presentRequest (s : State) : (s.presentRequest).txBodyByte = s.txBodyByte := rfl
@[simp] theorem State.txPrefix_presentRequest (s : State) : (s.presentRequest).txPrefix = s.txPrefix := rfl
@[simp] theorem State.rxByte_popInput (s : State) : (s.popInput).rxByte = s.rxByte := rfl
@[simp] theorem State.rxFrame_popInput (s : State) : (s.popInput).rxFrame = s.rxFrame := rfl
@[simp] theorem State.request_popInput (s : State) : (s.popInput).request = s.request := rfl
@[simp] theorem validate_popInput (s : State) : validate (s.popInput) = validate s := rfl
@[simp] theorem State.txBodyByte_popInput (s : State) : (s.popInput).txBodyByte = s.txBodyByte := rfl
@[simp] theorem State.txPrefix_popInput (s : State) : (s.popInput).txPrefix = s.txPrefix := rfl
@[simp] theorem State.rxByte_beginCycle (t35 : Nat) (i : Inputs) (s : State) : (s.beginCycle t35 i).rxByte = s.rxByte := rfl
@[simp] theorem State.rxFrame_beginCycle (t35 : Nat) (i : Inputs) (s : State) : (s.beginCycle t35 i).rxFrame = s.rxFrame := rfl
@[simp] theorem State.request_beginCycle (t35 : Nat) (i : Inputs) (s : State) : (s.beginCycle t35 i).request = s.request := rfl
@[simp] theorem validate_beginCycle (t35 : Nat) (i : Inputs) (s : State) : validate (s.beginCycle t35 i) = validate s := rfl
@[simp] theorem State.txBodyByte_beginCycle (t35 : Nat) (i : Inputs) (s : State) : (s.beginCycle t35 i).txBodyByte = s.txBodyByte := rfl
@[simp] theorem State.txPrefix_beginCycle (t35 : Nat) (i : Inputs) (s : State) : (s.beginCycle t35 i).txPrefix = s.txPrefix := rfl
@[simp] theorem State.rxByte_noteByte (i : Inputs) (s : State) : (s.noteByte i).rxByte = s.rxByte := rfl
@[simp] theorem State.rxFrame_noteByte (i : Inputs) (s : State) : (s.noteByte i).rxFrame = s.rxFrame := rfl
@[simp] theorem State.request_noteByte (i : Inputs) (s : State) : (s.noteByte i).request = s.request := rfl
@[simp] theorem validate_noteByte (i : Inputs) (s : State) : validate (s.noteByte i) = validate s := rfl
@[simp] theorem State.txBodyByte_noteByte (i : Inputs) (s : State) : (s.noteByte i).txBodyByte = s.txBodyByte := rfl
@[simp] theorem State.txPrefix_noteByte (i : Inputs) (s : State) : (s.noteByte i).txPrefix = s.txPrefix := rfl
@[simp] theorem State.rxByte_sentByte (s : State) : (s.sentByte).rxByte = s.rxByte := rfl
@[simp] theorem State.rxFrame_sentByte (s : State) : (s.sentByte).rxFrame = s.rxFrame := rfl
@[simp] theorem State.request_sentByte (s : State) : (s.sentByte).request = s.request := rfl
@[simp] theorem validate_sentByte (s : State) : validate (s.sentByte) = validate s := rfl
@[simp] theorem State.txBodyByte_sentByte (s : State) : (s.sentByte).txBodyByte = s.txBodyByte := rfl
@[simp] theorem State.txPrefix_sentByte (s : State) : (s.sentByte).txPrefix = s.txPrefix := rfl

end Sys2Proof.Machine
end

