-- ==== Sys2Proof/Laws/Memory.lean ====
section
/-! SUPPORT. The byte stores: a byte written is read back, every other byte stays, and every operation keeps the
canonical form. -/

namespace Sys2Proof.Machine

@[simp] theorem Memory.get?_nil (i : Nat) : Memory.get? [] i = none := rfl

@[simp] theorem Memory.get?_set_same (m : Memory) (i : Nat) (b : Byte) :
    Memory.get? (Memory.set m i b) i = some b := by
  induction m with
  | nil => simp [Memory.set, Memory.get?]
  | cons e m ih =>
    obtain ⟨k, v⟩ := e
    unfold Memory.set
    split
    · simp [Memory.get?]
    · split
      · simp [Memory.get?]
      · simp [Memory.get?, *]

theorem Memory.get?_set_other (m : Memory) {i j : Nat} (b : Byte) (h : j ≠ i) :
    Memory.get? (Memory.set m i b) j = Memory.get? m j := by
  induction m with
  | nil => simp [Memory.set, Memory.get?, h]
  | cons e m ih =>
    obtain ⟨k, v⟩ := e
    unfold Memory.set
    split
    · simp [Memory.get?, h]
    · split
      · subst_vars; simp [Memory.get?, h]
      · simp [Memory.get?, ih]

/-- What one write does to every byte. -/
theorem Memory.get?_set (m : Memory) (i j : Nat) (b : Byte) :
    Memory.get? (Memory.set m i b) j = if j = i then some b else Memory.get? m j := by
  split
  · subst_vars; simp
  · exact Memory.get?_set_other m b ‹_›

@[simp] theorem Memory.load_nil (m : Memory) (i : Nat) : Memory.load m i [] = m := rfl

theorem Memory.load_cons (m : Memory) (i : Nat) (b : Byte) (bs : List Byte) :
    Memory.load m i (b :: bs) = Memory.load (Memory.set m i b) (i + 1) bs := rfl

/-- What writing a sequence does to every byte. -/
theorem Memory.get?_load (bs : List Byte) (m : Memory) (i j : Nat) :
    Memory.get? (Memory.load m i bs) j =
      if i ≤ j ∧ j < i + bs.length then bs[j - i]? else Memory.get? m j := by
  induction bs generalizing m i with
  | nil => simp only [Memory.load_nil, List.length_nil]; split <;> [omega; rfl]
  | cons b bs ih =>
    rw [Memory.load_cons, ih, Memory.get?_set, List.length_cons]
    by_cases hj : j = i
    · subst hj; simp
    · by_cases hin : i + 1 ≤ j ∧ j < i + 1 + bs.length
      · rw [if_pos hin, if_pos (by omega)]
        obtain ⟨d, hd⟩ : ∃ d, j - i = d + 1 := ⟨j - i - 1, by omega⟩
        rw [hd, List.getElem?_cons_succ]
        congr 1; omega
      · rw [if_neg hin, if_neg hj, if_neg (by omega)]

theorem Memory.wfFrom_mono {cap : Nat} (m : Memory) {l l' : Nat} (hl : l' ≤ l) (h : Memory.wfFrom cap l m = true) :
    Memory.wfFrom cap l' m = true := by
  cases m with
  | nil => rfl
  | cons e m =>
    simp only [Memory.wfFrom, Bool.and_eq_true, decide_eq_true_eq] at h ⊢
    exact ⟨⟨by omega, h.1.2⟩, h.2⟩

theorem Memory.wfFrom_set {cap : Nat} (m : Memory) {l i : Nat} (b : Byte) (hl : l ≤ i) (hi : i < cap)
    (h : Memory.wfFrom cap l m = true) : Memory.wfFrom cap l (Memory.set m i b) = true := by
  induction m generalizing l with
  | nil => simp [Memory.set, Memory.wfFrom, hl, hi]
  | cons e m ih =>
    obtain ⟨k, v⟩ := e
    simp only [Memory.wfFrom, Bool.and_eq_true, decide_eq_true_eq] at h
    unfold Memory.set
    split
    · simp only [Memory.wfFrom, Bool.and_eq_true, decide_eq_true_eq]
      exact ⟨⟨hl, hi⟩, ⟨by omega, h.1.2⟩, h.2⟩
    · split
      · subst_vars
        simp only [Memory.wfFrom, Bool.and_eq_true, decide_eq_true_eq]
        exact ⟨⟨hl, hi⟩, h.2⟩
      · simp only [Memory.wfFrom, Bool.and_eq_true, decide_eq_true_eq]
        exact ⟨h.1, ih (by omega) h.2⟩

/-- Writing a byte of the store keeps its canonical form. -/
theorem Memory.wf_set {cap : Nat} (m : Memory) {i : Nat} (b : Byte) (hi : i < cap)
    (h : Memory.wf cap m = true) : Memory.wf cap (Memory.set m i b) = true :=
  Memory.wfFrom_set m b (Nat.zero_le _) hi h

/-- Writing a sequence that fits the store keeps its canonical form. -/
theorem Memory.wf_load {cap : Nat} (bs : List Byte) (m : Memory) (i : Nat) (hi : i + bs.length ≤ cap)
    (h : Memory.wf cap m = true) : Memory.wf cap (Memory.load m i bs) = true := by
  induction bs generalizing m i with
  | nil => exact h
  | cons b bs ih =>
    rw [List.length_cons] at hi
    exact ih _ _ (by omega) (Memory.wf_set m b (by omega) h)

@[simp] theorem Memory.wf_nil (cap : Nat) : Memory.wf cap [] = true := rfl

/-- The reset state's stores are in canonical form. -/
theorem reset_stores_wf :
    Memory.wf Config.rxCap State.reset.rxBuf = true ∧ Memory.wf Config.txBodyCap State.reset.txBody = true :=
  ⟨rfl, rfl⟩

/-! ### The stores as the rules read them -/

@[simp] theorem State.rxFrame_length (s : State) : s.rxFrame.length = s.rxLen := by simp [State.rxFrame]

@[simp] theorem State.txPrefix_length (s : State) (n : Nat) : (s.txPrefix n).length = n := by simp [State.txPrefix]

theorem State.byteAt_rxFrame (s : State) {i : Nat} (h : i < s.rxLen) : byteAt s.rxFrame i = s.rxByte i := by
  simp [byteAt, State.rxFrame, List.getD_eq_getElem?_getD, h]

theorem State.byteAt_txPrefix (s : State) {n i : Nat} (h : i < n) : byteAt (s.txPrefix n) i = s.txBodyByte i := by
  simp [byteAt, State.txPrefix, List.getD_eq_getElem?_getD, h]

theorem State.txPrefix_succ (s : State) (n : Nat) : s.txPrefix (n + 1) = s.txPrefix n ++ [s.txBodyByte n] := by
  simp [State.txPrefix, List.range_succ]

@[simp] theorem State.txPrefix_zero (s : State) : s.txPrefix 0 = [] := rfl

/-- The bytes of a loaded body, in terms of the body. -/
theorem State.txBodyByte_loadTx (body : List Byte) (s : State) (i : Nat) :
    (s.loadTx body).txBodyByte i = if i < body.length then byteAt body i else s.txBodyByte i := by
  simp only [State.txBodyByte, State.loadTx_txBody, State.loadTx_epoch, Memory.get?_load]
  split
  · rename_i h
    have hi : i < body.length := by omega
    simp [hi, byteAt, List.getD_eq_getElem?_getD]
  · rename_i h
    rw [if_neg (by omega)]

/-- A loaded body reads back as it was given (R186). -/
theorem State.txPrefix_loadTx (body : List Byte) (s : State) : (s.loadTx body).txPrefix body.length = body := by
  apply List.ext_getElem
  · simp
  · intro i h1 h2
    simp only [State.txPrefix, List.getElem_map, List.getElem_range, State.txBodyByte_loadTx]
    simp [h2, byteAt, List.getD_eq_getElem?_getD]

/-- Writing the byte after the frame appends it (R122). -/
theorem State.rxFrame_append (s t : State) (b : Byte) (hb : t.rxBuf = Memory.set s.rxBuf s.rxLen b)
    (hl : t.rxLen = s.rxLen + 1) (he : t.epoch = s.epoch) : t.rxFrame = s.rxFrame ++ [b] := by
  have hlast : t.rxByte s.rxLen = b := by simp [State.rxByte, hb]
  have hrest : (List.range s.rxLen).map t.rxByte = (List.range s.rxLen).map s.rxByte := by
    apply List.map_congr_left
    intro i hi
    have : i ≠ s.rxLen := by have := List.mem_range.mp hi; omega
    simp [State.rxByte, hb, he, Memory.get?_set_other _ _ this]
  simp [State.rxFrame, hl, List.range_succ, hlast, hrest]

/-- Writing the first byte starts a frame of one byte (R121). -/
theorem State.rxFrame_start (s t : State) (b : Byte) (hb : t.rxBuf = Memory.set s.rxBuf 0 b)
    (hl : t.rxLen = 1) : t.rxFrame = [b] := by
  simp [State.rxFrame, hl, State.rxByte, hb]

/-- A frame written whole is the frame held. -/
theorem State.rxFrame_load (s t : State) (f : List Byte) (hb : t.rxBuf = Memory.load s.rxBuf 0 f)
    (hl : t.rxLen = f.length) : t.rxFrame = f := by
  apply List.ext_getElem
  · simp [hl]
  · intro i h1 h2
    simp [State.rxFrame, State.rxByte, hb, Memory.get?_load, h2]

end Sys2Proof.Machine
end

