-- ==== Sys2Proof/Laws/PerInstr.lean ====
section
/-! SUPPORT. What holds of every instruction, one lemma per constructor: the length of its encoding. -/

namespace Sys2Proof.Laws

set_option Elab.async false

/-- The bounds on the length of an instruction's encoding: of a request 8 to 256 bytes (R71, R75), of a response 5 to
255 (R181). A CRC operation is encoded in its control pins. -/
def EncodeLength.Bound : Code → Prop
  | .request f => 8 ≤ f.length ∧ f.length ≤ 256
  | .response f => 5 ≤ f.length ∧ f.length ≤ 255
  | .crcControl _ _ _ _ => True

/-- A well-formed instruction's encoding has a length within the bounds. -/
def EncodeLength.Statement (i : Instr) : Prop := i.wellFormed = true → EncodeLength.Bound (encode i)

theorem EncodeLength.readCoils (addr : Byte) (a b : Word) :
    EncodeLength.Statement (.readCoils addr a b) := by
  simp [EncodeLength.Statement, EncodeLength.Bound, encode]

theorem EncodeLength.readDiscreteInputs (addr : Byte) (a b : Word) :
    EncodeLength.Statement (.readDiscreteInputs addr a b) := by
  simp [EncodeLength.Statement, EncodeLength.Bound, encode]

theorem EncodeLength.readHoldingRegisters (addr : Byte) (a b : Word) :
    EncodeLength.Statement (.readHoldingRegisters addr a b) := by
  simp [EncodeLength.Statement, EncodeLength.Bound, encode]

theorem EncodeLength.readInputRegisters (addr : Byte) (a b : Word) :
    EncodeLength.Statement (.readInputRegisters addr a b) := by
  simp [EncodeLength.Statement, EncodeLength.Bound, encode]

theorem EncodeLength.writeSingleCoil (addr : Byte) (a b : Word) :
    EncodeLength.Statement (.writeSingleCoil addr a b) := by
  simp [EncodeLength.Statement, EncodeLength.Bound, encode]

theorem EncodeLength.writeSingleRegister (addr : Byte) (a b : Word) :
    EncodeLength.Statement (.writeSingleRegister addr a b) := by
  simp [EncodeLength.Statement, EncodeLength.Bound, encode]

theorem EncodeLength.writeMultipleCoils (addr : Byte) (a b : Word) (bc : Byte) (data : List Byte) :
    EncodeLength.Statement (.writeMultipleCoils addr a b bc data) := by
  intro h
  have := (payloadOk_iff bc data).mp h
  simp only [EncodeLength.Bound, encode, encodeFrame_length, requestBodyM_length]; omega

theorem EncodeLength.writeMultipleRegisters (addr : Byte) (a b : Word) (bc : Byte) (data : List Byte) :
    EncodeLength.Statement (.writeMultipleRegisters addr a b bc data) := by
  intro h
  have := (payloadOk_iff bc data).mp h
  simp only [EncodeLength.Bound, encode, encodeFrame_length, requestBodyM_length]; omega

theorem EncodeLength.readCoilsRsp (addr : Byte) (v : List Bool) :
    EncodeLength.Statement (.readCoilsRsp addr v) := by
  intro h
  have := (bitCountOk_iff v).mp h
  simp only [EncodeLength.Bound, encode, encodeFrame_length, bitsBody_length, byteCount]; omega

theorem EncodeLength.readDiscreteInputsRsp (addr : Byte) (v : List Bool) :
    EncodeLength.Statement (.readDiscreteInputsRsp addr v) := by
  intro h
  have := (bitCountOk_iff v).mp h
  simp only [EncodeLength.Bound, encode, encodeFrame_length, bitsBody_length, byteCount]; omega

theorem EncodeLength.readHoldingRegistersRsp (addr : Byte) (w : List Word) :
    EncodeLength.Statement (.readHoldingRegistersRsp addr w) := by
  intro h
  have := (regCountOk_iff w).mp h
  simp only [EncodeLength.Bound, encode, encodeFrame_length, regsBody_length]; omega

theorem EncodeLength.readInputRegistersRsp (addr : Byte) (w : List Word) :
    EncodeLength.Statement (.readInputRegistersRsp addr w) := by
  intro h
  have := (regCountOk_iff w).mp h
  simp only [EncodeLength.Bound, encode, encodeFrame_length, regsBody_length]; omega

theorem EncodeLength.writeSingleCoilRsp (addr : Byte) (a b : Word) :
    EncodeLength.Statement (.writeSingleCoilRsp addr a b) := by
  simp [EncodeLength.Statement, EncodeLength.Bound, encode]

theorem EncodeLength.writeSingleRegisterRsp (addr : Byte) (a b : Word) :
    EncodeLength.Statement (.writeSingleRegisterRsp addr a b) := by
  simp [EncodeLength.Statement, EncodeLength.Bound, encode]

theorem EncodeLength.writeMultipleCoilsRsp (addr : Byte) (a b : Word) :
    EncodeLength.Statement (.writeMultipleCoilsRsp addr a b) := by
  simp [EncodeLength.Statement, EncodeLength.Bound, encode]

theorem EncodeLength.writeMultipleRegistersRsp (addr : Byte) (a b : Word) :
    EncodeLength.Statement (.writeMultipleRegistersRsp addr a b) := by
  simp [EncodeLength.Statement, EncodeLength.Bound, encode]

theorem EncodeLength.exceptionRsp (addr fc code : Byte) :
    EncodeLength.Statement (.exceptionRsp addr fc code) := by
  simp [EncodeLength.Statement, EncodeLength.Bound, encode]

theorem EncodeLength.illegalFunctionRsp (addr fc : Byte) :
    EncodeLength.Statement (.illegalFunctionRsp addr fc) := by
  simp [EncodeLength.Statement, EncodeLength.Bound, encode]

theorem EncodeLength.crcHold (unit : CrcUnit) :
    EncodeLength.Statement (.crcHold unit) := fun _ => trivial

theorem EncodeLength.crcUpdate (unit : CrcUnit) (din : Byte) :
    EncodeLength.Statement (.crcUpdate unit din) := fun _ => trivial

theorem EncodeLength.crcInit (unit : CrcUnit) :
    EncodeLength.Statement (.crcInit unit) := fun _ => trivial

theorem EncodeLength.crcInitUpdate (unit : CrcUnit) (din : Byte) :
    EncodeLength.Statement (.crcInitUpdate unit din) := fun _ => trivial

end Sys2Proof.Laws
end

