-- ==== Sys2Proof/Laws/Step.lean ====
section
/-! SUPPORT. What one cycle does, said once: each instruction's effect as an equation, each branch's, and the whole
step's (`codecStep_eq` where it answers a next state, `codecStep_next` for the converse). -/

namespace Sys2Proof.Machine

@[simp] theorem andThen_next (s : State) (f : State → Host.Outcome State Fault Refusal) :
    andThen (.next s) f = f s := rfl

/-! ### Instructions -/

@[simp] theorem exec_crcHold (u : CrcUnit) (s : State) : exec (.crcHold u) s = .next s := by
  simp [exec, execCrcHold]
@[simp] theorem exec_crcUpdate (u : CrcUnit) (b : Byte) (s : State) :
    exec (.crcUpdate u b) s = .next (s.setCrc u (crcUpd (s.crcReg u) b)) := rfl
@[simp] theorem exec_crcInit (u : CrcUnit) (s : State) : exec (.crcInit u) s = .next (s.setCrc u crcStart) := rfl
@[simp] theorem exec_crcInitUpdate (u : CrcUnit) (b : Byte) (s : State) :
    exec (.crcInitUpdate u b) s = .next (s.setCrc u (crcUpd crcStart b)) := rfl
@[simp] theorem exec_illegalFunctionRsp (addr fc : Byte) (s : State) :
    exec (.illegalFunctionRsp addr fc) s = .next ((s.emit .illFunc).loadTx (excBody addr fc 0x01#8)) := rfl

/-- A Request with a supported code runs as its request instruction: it goes to the dispatcher. -/
theorem exec_request {q : Request} (h : supportedFc q.fc = true) (s : State) :
    exec q.instr s = .next s.presentRequest := by
  obtain ⟨addr, fc, a, b, bc, data⟩ := q
  rw [supportedFc_iff] at h
  rcases h with h | h | h | h | h | h | h | h <;> (simp only at h; subst h; rfl)

/-- A Response runs as its response instruction: the body of R183 is loaded, or the Response is refused. -/
theorem exec_respond (q : Request) (r : Response) (s : State) :
    (match q.respond r with
      | some i => exec i s
      | none => andThen (exec (.crcHold .tx) s) fun t => .next t.refuseResponse)
    = .next (match encodeResponse q r with
      | some body => s.loadTx body
      | none => s.refuseResponse) := by
  obtain ⟨addr, fc, a, b, bc, data⟩ := q
  cases r with
  | exc c => simp only [Request.respond, encodeResponse, exec, execExceptionRsp]; split <;> rfl
  | bits v =>
    by_cases h1 : fc = 0x01#8
    · subst h1
      by_cases hv : 1 ≤ v.length ∧ v.length ≤ 2000 <;>
        simp [Request.respond, encodeResponse, exec, execReadCoilsRsp, State.respondBits, bitCountOk_iff, hv]
    · by_cases h2 : fc = 0x02#8
      · subst h2
        by_cases hv : 1 ≤ v.length ∧ v.length ≤ 2000 <;>
          simp [Request.respond, encodeResponse, exec, execReadDiscreteInputsRsp, State.respondBits, bitCountOk_iff, hv]
      · simp [Request.respond, encodeResponse, h1, h2]
  | regs w =>
    by_cases h1 : fc = 0x03#8
    · subst h1
      by_cases hv : 1 ≤ w.length ∧ w.length ≤ 125 <;>
        simp [Request.respond, encodeResponse, exec, execReadHoldingRegistersRsp, State.respondRegs, regCountOk_iff, hv]
    · by_cases h2 : fc = 0x04#8
      · subst h2
        by_cases hv : 1 ≤ w.length ∧ w.length ≤ 125 <;>
          simp [Request.respond, encodeResponse, exec, execReadInputRegistersRsp, State.respondRegs, regCountOk_iff, hv]
      · simp [Request.respond, encodeResponse, h1, h2]
  | writeOk =>
    by_cases h : fc = 0x05#8 ∨ fc = 0x06#8 ∨ fc = 0x0F#8 ∨ fc = 0x10#8
    · rcases h with h | h | h | h <;> (subst h; rfl)
    · simp only [not_or] at h
      simp [Request.respond, encodeResponse, h]

/-! ### Validation -/

/-- A dispatched Request is the held frame's, and its frame passed every check (R140, R148). -/
theorem validate_eq_dispatch {s : State} {q : Request} (h : validate s = .dispatch q) :
    q = s.request ∧ s.rxOvf = false ∧ 4 ≤ s.rxLen ∧ crcOk s.rxFrame = true ∧
      s.addressed (byteAt s.rxFrame 0) = true ∧ supportedFc (byteAt s.rxFrame 1) = true ∧
      lengthOk s.rxFrame = true := by
  unfold validate at h
  split at h; · cases h
  split at h; · cases h
  split at h; · cases h
  split at h; · cases h
  split at h; · cases h
  split at h; · cases h
  cases h
  simp_all

/-! ### Branches -/

/-- The state a reset cycle leaves (R260). -/
def resetState (i : Inputs) (s : State) : State :=
  { State.reset with
    cfgUnitId := i.cfgUnitId, cfgPromisc := i.cfgPromisc
    inputs := s.inputs, cycles := s.cycles + 1, epoch := s.cycles + 1 }

theorem resetCycle_eq (i : Inputs) (s : State) : resetCycle i s = .next (resetState i s) := rfl

/-- The state after `start_frame(b)` (R121). -/
def startState (b : Byte) (s : State) : State :=
  { s.setCrc .rx (crcUpd crcStart b) with
    rxBuf := Memory.set s.rxBuf 0 b, rxLen := 1, rxOvf := false, fsm := .receiving }

theorem startFrame_eq (b : Byte) (s : State) : startFrame b s = .next (startState b s) := rfl

/-- The state after `append_byte(b)` (R122). -/
def appendState (b : Byte) (s : State) : State :=
  if s.rxLen < Config.rxCap then
    { s.setCrc .rx (crcUpd s.rxCrc b) with rxBuf := Memory.set s.rxBuf s.rxLen b, rxLen := s.rxLen + 1 }
  else { s with rxOvf := true }

theorem appendByte_eq (b : Byte) (s : State) : appendByte b s = .next (appendState b s) := by
  simp only [appendByte, appendState]; split <;> simp

/-- The next state of a branch, on the state the common updates give, wherever the branch answers one. -/
def branchState (t35 : Nat) (i : Inputs) (s : State) : State :=
  match s.fsm with
  | .idle =>
    if s.stopPending then { s with fsm := .stopped } else if i.rxValid then startState i.rxData s else s
  | .receiving =>
    if i.stop then { s with fsm := .stopped }
    else if i.rxValid then
      if earlyEnd (appendState i.rxData s) then { appendState i.rxData s with fsm := .validating }
      else appendState i.rxData s
    else if gapEnd t35 s then { s with fsm := .validating } else s
  | .validating =>
    match validate s with
    | .ignore r => (s.noteByte i).dropFrame r.event
    | .respondException addr fc _ => ((s.noteByte i).emit .illFunc).loadTx (excBody addr fc 0x01#8)
    | .dispatch _ => (s.noteByte i).presentRequest
  | .dispatching =>
    if i.respValid then
      match encodeResponse s.request i.resp with
      | some body => (s.noteByte i).loadTx body
      | none => (s.noteByte i).refuseResponse
    else s.noteByte i
  | .responding =>
    if i.txReady then
      if s.txIdx < s.txLen then ((s.noteByte i).setCrc .tx (crcUpd s.txCrc (s.txBodyByte s.txIdx))).sentByte
      else (s.noteByte i).sentByte
    else s.noteByte i
  | .stopped => s

/-- Where a branch reads a store by a length, the length is one the spec's field can hold. -/
def State.readsInRange (s : State) : Prop :=
  (s.fsm = .validating ∨ s.fsm = .dispatching → s.rxLen ≤ Config.rxCap) ∧
  (s.fsm = .responding → s.txIdx < s.txLen → s.txIdx < Config.txBodyCap)

theorem idleBranch_eq (i : Inputs) (s : State) : idleBranch i s =
    .next (if s.stopPending then { s with fsm := .stopped } else if i.rxValid then startState i.rxData s else s) := by
  simp only [idleBranch]; split
  · simp
  · split <;> simp [startFrame_eq]

theorem receivingBranch_eq (t35 : Nat) (i : Inputs) (s : State) : receivingBranch t35 i s =
    .next (if i.stop then { s with fsm := .stopped }
      else if i.rxValid then
        if earlyEnd (appendState i.rxData s) then { appendState i.rxData s with fsm := .validating }
        else appendState i.rxData s
      else if gapEnd t35 s then { s with fsm := .validating } else s) := by
  simp only [receivingBranch]; split
  · simp
  · split <;> simp [appendByte_eq]

theorem validatingBranch_eq (i : Inputs) {s : State} (h : s.rxLen ≤ Config.rxCap) : validatingBranch i s =
    .next (match validate s with
      | .ignore r => (s.noteByte i).dropFrame r.event
      | .respondException addr fc _ => ((s.noteByte i).emit .illFunc).loadTx (excBody addr fc 0x01#8)
      | .dispatch _ => (s.noteByte i).presentRequest) := by
  simp only [validatingBranch, if_pos h]
  cases hv : validate s with
  | ignore r => simp
  | respondException addr fc code => simp
  | dispatch q =>
    obtain ⟨rfl, -, -, -, -, hs, -⟩ := validate_eq_dispatch hv
    exact exec_request (q := s.request) hs _

theorem dispatchingBranch_eq (i : Inputs) {s : State} (h : s.rxLen ≤ Config.rxCap) : dispatchingBranch i s =
    .next (if i.respValid then
        match encodeResponse s.request i.resp with
        | some body => (s.noteByte i).loadTx body
        | none => (s.noteByte i).refuseResponse
      else s.noteByte i) := by
  simp only [dispatchingBranch, if_pos h]
  split
  · exact exec_respond s.request i.resp (s.noteByte i)
  · simp

theorem respondingBranch_eq (i : Inputs) {s : State} (h : s.txIdx < s.txLen → s.txIdx < Config.txBodyCap) :
    respondingBranch i s =
    .next (if i.txReady then
        if s.txIdx < s.txLen then ((s.noteByte i).setCrc .tx (crcUpd s.txCrc (s.txBodyByte s.txIdx))).sentByte
        else (s.noteByte i).sentByte
      else s.noteByte i) := by
  simp only [respondingBranch]
  split
  · split
    · rw [if_pos (h ‹_›)]; simp
    · simp
  · simp

/-- What a branch answers. -/
theorem branch_eq (t35 : Nat) (i : Inputs) {s : State} (h : s.readsInRange) :
    branch t35 i s = .next (branchState t35 i s) := by
  unfold branch branchState
  cases hf : s.fsm
  · exact idleBranch_eq i s
  · exact receivingBranch_eq t35 i s
  · exact validatingBranch_eq i (h.1 (.inl hf))
  · exact dispatchingBranch_eq i (h.1 (.inr hf))
  · exact respondingBranch_eq i (h.2 hf)
  · exact exec_crcHold _ _

/-- A branch that answers a next state read its stores in range. -/
theorem branch_readsInRange {t35 : Nat} {i : Inputs} {s t : State} (h : branch t35 i s = .next t)
    (hr : s.fsm = .responding → i.txReady = true) : s.readsInRange := by
  unfold branch at h
  constructor
  · rintro (hf | hf) <;> rw [hf] at h <;> simp only at h
    · unfold validatingBranch at h; split at h; · assumption
      cases h
    · unfold dispatchingBranch at h; split at h; · assumption
      cases h
  · intro hf hlt
    rw [hf] at h
    simp only [respondingBranch, hr hf, if_true, if_pos hlt] at h
    split at h; · assumption
    cases h

/-- Whenever a branch answers a next state, it is this one. -/
theorem branch_next {t35 : Nat} {i : Inputs} {s t : State} (h : branch t35 i s = .next t) :
    t = branchState t35 i s := by
  by_cases hr : s.fsm = .responding ∧ i.txReady = false
  · obtain ⟨hf, hr⟩ := hr
    simp only [branch, hf, respondingBranch, hr] at h
    simp only [branchState, hf, hr]
    simpa using h.symm
  · have := branch_eq t35 i (branch_readsInRange h fun hf => by
      cases hh : i.txReady
      · exact absurd ⟨hf, hh⟩ hr
      · rfl)
    rw [this] at h
    exact (Host.Outcome.next.inj h).symm

/-! ### The step -/

/-- The next state of a cycle, wherever it answers one. -/
def nextState (t35 : Nat) (i : Inputs) (s : State) : State :=
  if i.rst then resetState i s else branchState t35 i (s.beginCycle t35 i)

/-- What a cycle answers (R200). -/
theorem codecStep_eq (t35 : Nat) (i : Inputs) {s : State} (h : i.rst = false → s.readsInRange) :
    codecStep t35 i s = .next (nextState t35 i s) := by
  unfold codecStep nextState
  split
  · exact resetCycle_eq i s
  · exact branch_eq t35 i (h (by simpa using ‹¬ i.rst = true›))

/-- Whenever a cycle answers a next state, it is this one. -/
theorem codecStep_next {t35 : Nat} {i : Inputs} {s t : State} (h : codecStep t35 i s = .next t) :
    t = nextState t35 i s := by
  unfold codecStep at h
  unfold nextState
  split at h
  · rw [if_pos ‹_›]; exact (Host.Outcome.next.inj h).symm
  · rw [if_neg ‹_›]; exact branch_next h

theorem step_eq {s : State} (h : s.input.rst = false → s.readsInRange) :
    step s = .next (nextState Config.t35Cycles s.input s.popInput) :=
  codecStep_eq _ _ h

theorem step_next {s t : State} (h : step s = .next t) : t = nextState Config.t35Cycles s.input s.popInput :=
  codecStep_next h

/-- IDLE and RECEIVING read no store by a length. -/
theorem State.readsInRange_of_receive {s : State} (h : s.fsm = .idle ∨ s.fsm = .receiving) : s.readsInRange := by
  constructor <;> intro h' <;> rcases h with h | h <;> simp [h] at h'

/-- A placed control word's operation is what the next step does to the receive side's register. -/
theorem step_placeControl (crcInit crcEn : Bool) (din : Byte) (s : State) :
    ∃ t u, step (s.placeControl crcInit crcEn din) = .next t ∧
      exec (decodeControl .rx crcInit crcEn din) (s.placeControl crcInit crcEn din) = .next u ∧ t.rxCrc = u.rxCrc := by
  cases crcInit <;> cases crcEn
  · refine ⟨_, _, step_eq fun _ => State.readsInRange_of_receive (.inl rfl), exec_crcHold _ _, ?_⟩
    simp only [nextState, branchState, State.placeControl, State.holdIdle, State.input, Inputs.quiet,
      State.beginCycle, State.popInput, List.headD_cons, Bool.false_eq_true, if_false]
    split <;> rfl
  · refine ⟨_, _, step_eq fun _ => State.readsInRange_of_receive (.inr rfl), exec_crcUpdate _ _ _, ?_⟩
    simp only [nextState, branchState, State.placeControl, State.input, Inputs.rxByte, Inputs.quiet,
      State.beginCycle, State.popInput, List.headD_cons, Bool.false_eq_true, if_false, if_true]
    split <;> rfl
  · exact ⟨_, _, rfl, exec_crcInit _ _, rfl⟩
  · exact ⟨_, _, step_eq fun _ => State.readsInRange_of_receive (.inl rfl), exec_crcInitUpdate _ _ _, rfl⟩

/-- The lengths of a state in the invariant are in range wherever a branch reads by them. -/
theorem State.Inv.readsInRange {s : State} (h : s.Inv) : s.readsInRange :=
  ⟨fun _ => h.rxLenLe, fun _ hlt => Nat.lt_of_lt_of_le hlt h.txLenLe⟩

end Sys2Proof.Machine
end

