-- ==== Sys2Proof/Tests/Slice0.lean ====
section
/-! SUPPORT. Tests by hand. The expected values are the spec's own vectors (spec/95_test_vectors.md, named V-… below)
and its rules' examples. The last part gives, for each statement with hypotheses, a state and operands that meet
them. -/

namespace Sys2Proof.Tests

set_option Elab.async false

open Sys2Proof Sys2Proof.Machine

/-! ### WellFormed refuses an ill-formed term of each check -/

theorem test_wf_refuses_byte_count :
    (Instr.writeMultipleCoils 1 19 10 0x02#8 [0xCD#8]).wellFormed = false ∧
    (Instr.writeMultipleRegisters 1 100 2 0x00#8 [0x00#8]).wellFormed = false := by decide +kernel
theorem test_wf_refuses_long_payload :
    (Instr.writeMultipleRegisters 1 0 124 0xF8#8 (List.replicate 248 0)).wellFormed = false ∧
    (Instr.writeMultipleRegisters 1 0 123 0xF7#8 (List.replicate 247 0)).wellFormed = true := by decide +kernel
theorem test_wf_refuses_bit_counts :
    (Instr.readCoilsRsp 1 []).wellFormed = false ∧ (Instr.readDiscreteInputsRsp 1 []).wellFormed = false := by decide +kernel
theorem test_wf_refuses_too_many_bits : (Instr.readCoilsRsp 1 (List.replicate 2001 true)).wellFormed = false := by
  decide +kernel
theorem test_wf_refuses_register_counts :
    (Instr.readHoldingRegistersRsp 1 []).wellFormed = false ∧
    (Instr.readInputRegistersRsp 1 (List.replicate 126 0)).wellFormed = false := by decide +kernel
theorem test_wf_refuses_exceptions :
    (Instr.exceptionRsp 1 0x03#8 0x04#8).wellFormed = false ∧ (Instr.exceptionRsp 1 0x07#8 0x01#8).wellFormed = false ∧
    (Instr.illegalFunctionRsp 1 0x03#8).wellFormed = false := by decide +kernel

/-! ### Decoding words written out from the spec's encodings -/

/-- V-DEC-1 to V-DEC-6: the REQ8 requests. -/
theorem test_decode_readCoils : decode (.request [0x01#8, 0x01#8, 0x00#8, 0x00#8, 0x00#8, 0x0A#8, 0xBC#8, 0x0D#8])
    = .ok (.readCoils 0x01#8 0#16 10#16) := by decide +kernel
theorem test_decode_readDiscreteInputs :
    decode (.request [0x01#8, 0x02#8, 0x00#8, 0x00#8, 0x00#8, 0x08#8, 0x79#8, 0xCC#8])
    = .ok (.readDiscreteInputs 0x01#8 0#16 8#16) := by decide +kernel
theorem test_decode_readHoldingRegisters :
    decode (.request [0x01#8, 0x03#8, 0x00#8, 0x64#8, 0x00#8, 0x04#8, 0x05#8, 0xD6#8])
    = .ok (.readHoldingRegisters 0x01#8 100#16 4#16) := by decide +kernel
theorem test_decode_readInputRegisters :
    decode (.request [0x01#8, 0x04#8, 0x00#8, 0x00#8, 0x00#8, 0x08#8, 0xF1#8, 0xCC#8])
    = .ok (.readInputRegisters 0x01#8 0#16 8#16) := by decide +kernel
theorem test_decode_writeSingleCoil :
    decode (.request [0x01#8, 0x05#8, 0x00#8, 0x0A#8, 0xFF#8, 0x00#8, 0xAC#8, 0x38#8])
    = .ok (.writeSingleCoil 0x01#8 10#16 0xFF00#16) := by decide +kernel
theorem test_decode_writeSingleRegister :
    decode (.request [0x01#8, 0x06#8, 0x00#8, 0x68#8, 0xA5#8, 0xA5#8, 0xB3#8, 0x3D#8])
    = .ok (.writeSingleRegister 0x01#8 104#16 0xA5A5#16) := by decide +kernel
/-- V-DEC-7 and V-DEC-8: the REQM requests. -/
theorem test_decode_writeMultipleCoils :
    decode (.request [0x01#8, 0x0F#8, 0x00#8, 0x13#8, 0x00#8, 0x0A#8, 0x02#8, 0xCD#8, 0x01#8, 0x72#8, 0xCB#8])
    = .ok (.writeMultipleCoils 0x01#8 19#16 10#16 0x02#8 [0xCD#8, 0x01#8]) := by decide +kernel
theorem test_decode_writeMultipleRegisters :
    decode (.request [0x01#8, 0x10#8, 0x00#8, 0x64#8, 0x00#8, 0x02#8, 0x04#8, 0x00#8, 0x01#8, 0xE2#8, 0x40#8,
      0xEC#8, 0xE4#8])
    = .ok (.writeMultipleRegisters 0x01#8 100#16 2#16 0x04#8 [0x00#8, 0x01#8, 0xE2#8, 0x40#8]) := by decide +kernel
/-- V-ENC-1, its ten bits padded with 0 to two bytes, and V-ENC-2. -/
theorem test_decode_readCoilsRsp : decode (.response [0x01#8, 0x01#8, 0x02#8, 0xCD#8, 0x01#8, 0x2C#8, 0xAC#8])
    = .ok (.readCoilsRsp 0x01#8 [true, false, true, true, false, false, true, true, true, false, false, false, false,
      false, false, false]) := by decide +kernel
theorem test_decode_readDiscreteInputsRsp : decode (.response [0x01#8, 0x02#8, 0x01#8, 0x82#8, 0x21#8, 0xE9#8])
    = .ok (.readDiscreteInputsRsp 0x01#8 [false, true, false, false, false, false, false, true]) := by decide +kernel
/-- V-ENC-3 and V-ENC-4. -/
theorem test_decode_readHoldingRegistersRsp :
    decode (.response [0x01#8, 0x03#8, 0x08#8, 0x00#8, 0x01#8, 0xE2#8, 0x40#8, 0x00#8, 0x64#8, 0x00#8, 0x00#8, 0xD2#8,
      0x85#8])
    = .ok (.readHoldingRegistersRsp 0x01#8 [0x0001#16, 0xE240#16, 0x0064#16, 0x0000#16]) := by decide +kernel
theorem test_decode_readInputRegistersRsp :
    decode (.response [0x01#8, 0x04#8, 0x10#8, 0x00#8, 0x00#8, 0x30#8, 0x39#8, 0x00#8, 0x00#8, 0x00#8, 0x7B#8, 0x08#8,
      0xFC#8, 0x01#8, 0x2C#8, 0x02#8, 0xB2#8, 0x00#8, 0x96#8, 0xA3#8, 0x98#8])
    = .ok (.readInputRegistersRsp 0x01#8 [0x0000#16, 0x3039#16, 0x0000#16, 0x007B#16, 0x08FC#16, 0x012C#16, 0x02B2#16,
      0x0096#16]) := by decide +kernel
/-- V-ENC-5 to V-ENC-8: the echoes. -/
theorem test_decode_writeSingleCoilRsp :
    decode (.response [0x01#8, 0x05#8, 0x00#8, 0x0A#8, 0xFF#8, 0x00#8, 0xAC#8, 0x38#8])
    = .ok (.writeSingleCoilRsp 0x01#8 10#16 0xFF00#16) := by decide +kernel
theorem test_decode_writeSingleRegisterRsp :
    decode (.response [0x01#8, 0x06#8, 0x00#8, 0x68#8, 0xA5#8, 0xA5#8, 0xB3#8, 0x3D#8])
    = .ok (.writeSingleRegisterRsp 0x01#8 104#16 0xA5A5#16) := by decide +kernel
theorem test_decode_writeMultipleCoilsRsp :
    decode (.response [0x01#8, 0x0F#8, 0x00#8, 0x13#8, 0x00#8, 0x0A#8, 0x24#8, 0x09#8])
    = .ok (.writeMultipleCoilsRsp 0x01#8 19#16 10#16) := by decide +kernel
theorem test_decode_writeMultipleRegistersRsp :
    decode (.response [0x01#8, 0x10#8, 0x00#8, 0x64#8, 0x00#8, 0x02#8, 0x00#8, 0x17#8])
    = .ok (.writeMultipleRegistersRsp 0x01#8 100#16 2#16) := by decide +kernel
/-- V-ENC-10, and R182's answer to fc 0x07. -/
theorem test_decode_exceptionRsp : decode (.response [0x01#8, 0x83#8, 0x02#8, 0xC0#8, 0xF1#8])
    = .ok (.exceptionRsp 0x01#8 0x03#8 0x02#8) := by decide +kernel
theorem test_decode_illegalFunctionRsp : decode (.response [0x01#8, 0x87#8, 0x01#8, 0x82#8, 0x30#8])
    = .ok (.illegalFunctionRsp 0x01#8 0x07#8) := by decide +kernel
/-- R81: the four combinations of `{crc_init, crc_en}`. -/
theorem test_decode_crcHold : decode (.crcControl .rx false false 0x5A#8) = .ok (.crcHold .rx) := by decide +kernel
theorem test_decode_crcUpdate : decode (.crcControl .rx false true 0x5A#8) = .ok (.crcUpdate .rx 0x5A#8) := by decide +kernel
theorem test_decode_crcInit : decode (.crcControl .tx true false 0x5A#8) = .ok (.crcInit .tx) := by decide +kernel
theorem test_decode_crcInitUpdate :
    decode (.crcControl .tx true true 0x5A#8) = .ok (.crcInitUpdate .tx 0x5A#8) := by decide +kernel

/-- V-VAL-2, V-VAL-4, V-VAL-13 and V-VAL-16 are rejected by name; V-VAL-9 is the codec's own to answer. -/
theorem test_decode_rejects :
    decode (.request [0x01#8, 0x03#8, 0x00#8]) = .error .short ∧
    decode (.request [0x01#8, 0x03#8, 0x00#8, 0x64#8, 0x00#8, 0x04#8, 0x05#8, 0xD7#8]) = .error .crc ∧
    decode (.request [0x01#8, 0x03#8, 0x00#8, 0x64#8, 0x00#8, 0x04#8, 0x00#8, 0x16#8, 0x03#8]) = .error .length ∧
    decode (.request [0x01#8, 0x0F#8, 0x00#8, 0x00#8, 0x00#8, 0x00#8, 0x55#8, 0xCB#8]) = .error .length ∧
    decode (.request [0x01#8, 0x07#8, 0x41#8, 0xE2#8]) = .ok (.illegalFunctionRsp 0x01#8 0x07#8) :=
  by decide +kernel

/-! ### One step on a small state -/

/-- A codec of unit 1 that holds a frame. -/
def held (fsm : Fsm) (f : List Byte) : State :=
  { State.reset with fsm := fsm, cfgUnitId := 0x01, rxBuf := Memory.load [] 0 f, rxLen := f.length, rxCrc := crc16 f }

/-- A codec that has transferred `idx` bytes of a body's frame. -/
def sending (body : List Byte) (idx : Nat) : State :=
  { State.reset with
    fsm := .responding, txBody := Memory.load [] 0 body, txLen := body.length, txIdx := idx
    txCrc := crc16 (body.take idx) }

/-- The codec with one cycle's inputs to come. -/
def driven (s : State) (i : Inputs) : State := { s with inputs := [i] }

/-- The dispatcher's answer. -/
def answer (r : Response) : Inputs := { Inputs.quiet with respValid := true, resp := r }

/-- Whether an outcome is a next state with a property. -/
def goesTo (o : Host.Outcome State Fault Refusal) (p : State → Bool) : Bool :=
  match o with
  | .next t => p t
  | .fault _ => false
  | .refused _ => false

/-- A frame validated with `T35_CYCLES` = 4 is dispatched as the given Request. -/
def dispatches (f : List Byte) (q : Request) : Bool :=
  goesTo (codecStep 4 Inputs.quiet (held .validating f)) fun t =>
    t.fsm == .dispatching && t.ev == 0x00#8 && t.request == q

/-- A dispatched frame and a Response load the given body. -/
def loads (f : List Byte) (r : Response) (body : List Byte) : Bool :=
  goesTo (codecStep 4 (answer r) (held .dispatching f)) fun t =>
    t.fsm == .responding && t.ev == 0x00#8 && t.txCrc == 0xFFFF#16 && t.txIdx == 0 && t.txPrefix t.txLen == body

/-- A dispatched frame and a Response end with EV_RESPERR. -/
def refuses (f : List Byte) (r : Response) : Bool :=
  goesTo (codecStep 4 (answer r) (held .dispatching f)) fun t => t.fsm == .idle && t.ev == 0x80#8 && t.txLen == 0

/-- The request frames of V-DEC-1 to V-DEC-8. -/
def dec1 : List Byte := [0x01, 0x01, 0x00, 0x00, 0x00, 0x0A, 0xBC, 0x0D]
def dec2 : List Byte := [0x01, 0x02, 0x00, 0x00, 0x00, 0x08, 0x79, 0xCC]
def dec3 : List Byte := [0x01, 0x03, 0x00, 0x64, 0x00, 0x04, 0x05, 0xD6]
def dec4 : List Byte := [0x01, 0x04, 0x00, 0x00, 0x00, 0x08, 0xF1, 0xCC]
def dec5 : List Byte := [0x01, 0x05, 0x00, 0x0A, 0xFF, 0x00, 0xAC, 0x38]
def dec6 : List Byte := [0x01, 0x06, 0x00, 0x68, 0xA5, 0xA5, 0xB3, 0x3D]
def dec7 : List Byte := [0x01, 0x0F, 0x00, 0x13, 0x00, 0x0A, 0x02, 0xCD, 0x01, 0x72, 0xCB]
def dec8 : List Byte := [0x01, 0x10, 0x00, 0x64, 0x00, 0x02, 0x04, 0x00, 0x01, 0xE2, 0x40, 0xEC, 0xE4]

theorem test_step_readCoils : dispatches dec1 ⟨1, 1, 0, 10, 0, []⟩ = true := by decide +kernel
theorem test_step_readDiscreteInputs : dispatches dec2 ⟨1, 2, 0, 8, 0, []⟩ = true := by decide +kernel
theorem test_step_readHoldingRegisters : dispatches dec3 ⟨1, 3, 100, 4, 0, []⟩ = true := by decide +kernel
theorem test_step_readInputRegisters : dispatches dec4 ⟨1, 4, 0, 8, 0, []⟩ = true := by decide +kernel
theorem test_step_writeSingleCoil : dispatches dec5 ⟨1, 5, 10, 0xFF00, 0, []⟩ = true := by decide +kernel
theorem test_step_writeSingleRegister : dispatches dec6 ⟨1, 6, 104, 0xA5A5, 0, []⟩ = true := by decide +kernel
theorem test_step_writeMultipleCoils : dispatches dec7 ⟨1, 0x0F, 19, 10, 2, [0xCD, 0x01]⟩ = true := by decide +kernel
theorem test_step_writeMultipleRegisters : dispatches dec8 ⟨1, 0x10, 100, 2, 4, [0x00, 0x01, 0xE2, 0x40]⟩ = true := by decide +kernel

/-- V-ENC-1 to V-ENC-8, V-ENC-10 and V-ENC-22, their bodies. -/
theorem test_step_readCoilsRsp :
    loads dec1 (.bits [true, false, true, true, false, false, true, true, true, false])
      [0x01, 0x01, 0x02, 0xCD, 0x01] = true := by decide +kernel
theorem test_step_readDiscreteInputsRsp :
    loads dec2 (.bits [false, true, false, false, false, false, false, true]) [0x01, 0x02, 0x01, 0x82] = true := by decide +kernel
theorem test_step_readHoldingRegistersRsp :
    loads dec3 (.regs [0x0001, 0xE240, 0x0064, 0x0000])
      [0x01, 0x03, 0x08, 0x00, 0x01, 0xE2, 0x40, 0x00, 0x64, 0x00, 0x00] = true := by decide +kernel
theorem test_step_readInputRegistersRsp :
    loads dec4 (.regs [0x0000, 0x3039, 0x0000, 0x007B, 0x08FC, 0x012C, 0x02B2, 0x0096])
      [0x01, 0x04, 0x10, 0x00, 0x00, 0x30, 0x39, 0x00, 0x00, 0x00, 0x7B, 0x08, 0xFC, 0x01, 0x2C, 0x02, 0xB2, 0x00,
        0x96] = true := by decide +kernel
theorem test_step_writeSingleCoilRsp : loads dec5 .writeOk [0x01, 0x05, 0x00, 0x0A, 0xFF, 0x00] = true := by decide +kernel
theorem test_step_writeSingleRegisterRsp : loads dec6 .writeOk [0x01, 0x06, 0x00, 0x68, 0xA5, 0xA5] = true := by decide +kernel
theorem test_step_writeMultipleCoilsRsp : loads dec7 .writeOk [0x01, 0x0F, 0x00, 0x13, 0x00, 0x0A] = true := by decide +kernel
theorem test_step_writeMultipleRegistersRsp : loads dec8 .writeOk [0x01, 0x10, 0x00, 0x64, 0x00, 0x02] = true := by decide +kernel
theorem test_step_exceptionRsp :
    loads dec3 (.exc 0x02) [0x01, 0x83, 0x02] = true ∧ loads dec8 (.exc 0x03) [0x01, 0x90, 0x03] = true := by decide +kernel
/-- V-ENC-13 to V-ENC-19: refused Responses. -/
theorem test_step_refusals :
    refuses dec3 (.regs []) = true ∧ refuses dec3 (.bits [true]) = true ∧ refuses dec3 .writeOk = true ∧
    refuses dec3 (.exc 0x04) = true ∧ refuses dec3 (.exc 0x00) = true ∧ refuses dec1 .writeOk = true ∧
    refuses dec5 (.regs [0x0001]) = true := by decide +kernel
/-- V-VAL-11: a code with bit 7 set is answered with the same byte, and EV_ILLFUNC. -/
theorem test_step_illegalFunctionRsp :
    goesTo (codecStep 4 Inputs.quiet (held .validating [0x01, 0x83, 0x02, 0xC0, 0xF1])) (fun t =>
      t.fsm == .responding && t.ev == 0x20#8 && t.txPrefix t.txLen == [0x01, 0x83, 0x01]) = true := by decide +kernel

/-- V-CRC-11 to V-CRC-14. -/
theorem test_step_crcHold : goesTo (exec (.crcHold .rx) { State.reset with rxCrc := 0x807E#16 }) (fun t =>
    t.rxCrc == 0x807E#16 && t.txCrc == 0xFFFF#16) = true := by decide +kernel
theorem test_step_crcUpdate : goesTo (exec (.crcUpdate .rx 0x01) { State.reset with txCrc := 0x1234#16 }) (fun t =>
    t.rxCrc == 0x807E#16 && t.txCrc == 0x1234#16) = true := by decide +kernel
theorem test_step_crcInit : goesTo (exec (.crcInit .tx) { State.reset with rxCrc := 0x5678#16, txCrc := 0x1234#16 })
    (fun t => t.txCrc == 0xFFFF#16 && t.rxCrc == 0x5678#16) = true := by decide +kernel
theorem test_step_crcInitUpdate : goesTo (exec (.crcInitUpdate .rx 0x01) { State.reset with rxCrc := 0x1234#16 })
    (fun t => t.rxCrc == 0x807E#16) = true := by decide +kernel

/-- V-CRC-1, V-CRC-10 and V-CRC-7. -/
theorem test_crc_values :
    crc16 [0x31, 0x32, 0x33, 0x34, 0x35, 0x36, 0x37, 0x38, 0x39] = 0x4B37#16 ∧ crcUpd 0x1234#16 0x56#8 = 0xE993#16 ∧
    crcUpd 0x0000#16 0x80#8 = 0xA001#16 := by decide +kernel
/-- V-RX-1, V-RX-2 and V-RX-11: a first byte, a second one, and one together with `stop`. -/
theorem test_step_first_byte : goesTo (codecStep 4 (Inputs.rxByte 0x01) State.reset) (fun t =>
    t.fsm == .receiving && t.rxFrame == [0x01#8] && t.rxCrc == 0x807E#16 && t.gapCnt == 0) = true := by decide +kernel
theorem test_step_second_byte : goesTo (codecStep 4 (Inputs.rxByte 0x03) (held .receiving [0x01])) (fun t =>
    t.fsm == .receiving && t.rxFrame == [0x01#8, 0x03#8] && t.rxCrc == 0x2140#16) = true := by decide +kernel
theorem test_step_byte_with_stop :
    goesTo (codecStep 4 { Inputs.rxByte 0x03 with stop := true } (held .receiving [0x01])) (fun t =>
      t.fsm == .stopped && t.rxLen == 1 && t.ev == 0x00#8) = true := by decide +kernel
/-- V-RX-5 and V-RX-6: the early end with the 8th byte, the gap's end with the fourth silent cycle. -/
theorem test_step_early_end : goesTo (codecStep 4 (Inputs.rxByte 0xD6) (held .receiving (dec3.take 7))) (fun t =>
    t.fsm == .validating && t.rxFrame == dec3) = true := by decide +kernel
theorem test_step_gap_end :
    goesTo (codecStep 4 Inputs.quiet { held .receiving dec7 with gapCnt := 3 }) (·.fsm == .validating) = true ∧
    goesTo (codecStep 4 Inputs.quiet { held .receiving dec7 with gapCnt := 2 }) (·.fsm == .receiving) = true :=
  by decide +kernel
/-- R187 and V-ENC-10: the bytes `83 02 C0 F1` of a frame on its way out, and the end of the frame with its last. -/
theorem test_tx_bytes :
    (sending [0x01, 0x83, 0x02] 1).txByte = 0x83#8 ∧ (sending [0x01, 0x83, 0x02] 3).txByte = 0xC0#8 ∧
    (sending [0x01, 0x83, 0x02] 4).txByte = 0xF1#8 := by decide +kernel
theorem test_step_last_byte : goesTo (codecStep 4 Inputs.quiet (sending [0x01, 0x83, 0x02] 4)) (fun t =>
    t.fsm == .idle && t.txIdx == 5) = true := by decide +kernel

/-- A table word's instruction is decoded, and is what the next step from reset runs. -/
theorem test_table_word :
    decodeTableWord 8 0x03 = some (.readHoldingRegisters 0 0 0) ∧ decodeTableWord 8 0x00 = some (.crcHold .rx) ∧
    goesTo (step (State.reset.withFetchWord 8 0x03)) (fun t => t.fsm == .dispatching && t.request.fc == 0x03#8) = true ∧
    goesTo (step (State.reset.withFetchWord 8 0x80)) (fun t => t.fsm == .responding && t.txLen == 3) = true :=
  by decide +kernel
/-- The 2-bit control words: 0x40BF is `crc_upd(0xFFFF, 0x00)` (V-CRC-4), and `crc16 [00 00]` is 0xB001. -/
theorem test_control_words :
    decodeTableWord 2 1 = some (.crcUpdate .rx 0) ∧ decodeTableWord 2 2 = some (.crcInit .rx) ∧
    decodeTableWord 2 3 = some (.crcInitUpdate .rx 0) ∧
    goesTo (step (State.reset.withFetchWord 2 1)) (·.rxCrc == 0xB001#16) = true ∧
    goesTo (step ({ State.reset with rxCrc := 0x1234#16 }.withFetchWord 2 2)) (·.rxCrc == 0xFFFF#16) = true ∧
    goesTo (step (State.reset.withFetchWord 2 3)) (·.rxCrc == 0x40BF#16) = true := by decide +kernel
/-- R266: the last CRC byte, offered in a reset cycle, is not transferred. -/
theorem test_reset_truncates : capture 1 (driven (sending [0x01, 0x83, 0x02] 4) (Inputs.reset 1 false)) = [] ∧
    capture 1 (driven (sending [0x01, 0x83, 0x02] 4) Inputs.quiet) = [0xF1#8] := by decide +kernel

/-! ### Witnesses: states and operands that meet the hypotheses of each statement -/

/-- A frame written into an empty store is the frame held. -/
theorem held_rxFrame (fsm : Fsm) (f : List Byte) : (held fsm f).rxFrame = f :=
  State.rxFrame_load State.reset _ f rfl rfl

/-- A codec in DISPATCHING with the frame of V-DEC-3 is in the invariant. -/
theorem dispatching_inv : (held .dispatching dec3).Inv where
  rxWf := by decide +kernel
  txWf := by decide +kernel
  rxLenLe := by decide +kernel
  txLenLe := by decide +kernel
  txIdxLe := by decide +kernel
  gapLe := Nat.zero_le _
  rxWritten := by decide +kernel
  txWritten := by decide +kernel
  ovfFull := by decide +kernel
  frameStarted := fun _ => by decide +kernel
  frameCrc := fun _ => by rw [held_rxFrame]; decide +kernel
  sendLen := by decide +kernel
  sendIdx := by decide +kernel
  sendCrc := by decide +kernel
  noStopReceiving := by decide +kernel
  stopInStopped := by decide +kernel
  dispatchedValid := by decide +kernel

/-- A codec about to transfer the first byte of V-ENC-10 is in the invariant. -/
theorem responding_inv : (sending [0x01, 0x83, 0x02] 0).Inv where
  rxWf := by decide +kernel
  txWf := by decide +kernel
  rxLenLe := by decide +kernel
  txLenLe := by decide +kernel
  txIdxLe := by decide +kernel
  gapLe := Nat.zero_le _
  rxWritten := by decide +kernel
  txWritten := by decide +kernel
  ovfFull := by decide +kernel
  frameStarted := fun h => by simp [State.holdsFrame, sending] at h
  frameCrc := fun h => by simp [State.holdsFrame, sending] at h
  sendLen := by decide +kernel
  sendIdx := by decide +kernel
  sendCrc := by decide +kernel
  noStopReceiving := by decide +kernel
  stopInStopped := by decide +kernel
  dispatchedValid := by decide +kernel

/-- The invariant reads none of the schedule. -/
theorem scheduled_inv {s : State} (h : s.Inv) (l : List Inputs) : ({ s with inputs := l } : State).Inv :=
  ⟨h.rxWf, h.txWf, h.rxLenLe, h.txLenLe, h.txIdxLe, h.gapLe, h.rxWritten, h.txWritten, h.ovfFull, h.frameStarted,
    h.frameCrc, h.sendLen, h.sendIdx, h.sendCrc, h.noStopReceiving, h.stopInStopped, h.dispatchedValid⟩

theorem driven_inv {s : State} (h : s.Inv) (i : Inputs) : (driven s i).Inv := scheduled_inv h [i]

/-- A reset cycle's inputs. -/
def resetting : Inputs := Inputs.reset 0x01 false

/-- A step answers a next state wherever its reads are in range. -/
theorem steps {s : State} (h : s.readsInRange) : ∃ t, step s = .next t := ⟨_, step_eq fun _ => h⟩

theorem test_witness_HeldFrameRunsItsInstruction :
    (∃ (s : State) (i : Instr), s.fsm = .validating ∧ s.input.rst = false ∧ s.rxLen ≤ 256 ∧ s.rxOvf = false ∧
      s.rxByte 0 = s.cfgUnitId ∧ decode (.request s.rxFrame) = .ok i) ∧
    ∃ (s : State) (i : Instr), s.fsm = .validating ∧ s.input.rst = false ∧ s.rxLen ≤ 256 ∧ s.rxOvf = false ∧
      s.cfgPromisc = true ∧ s.rxByte 0 ≠ s.cfgUnitId ∧ decode (.request s.rxFrame) = .ok i :=
  ⟨⟨driven (held .validating dec3) Inputs.quiet, .readHoldingRegisters 0x01 100 4, by decide +kernel⟩,
    ⟨driven { held .validating dec3 with cfgUnitId := 0x02, cfgPromisc := true } Inputs.quiet,
      .readHoldingRegisters 0x01 100 4, by decide +kernel⟩⟩
theorem test_witness_SelectedResponseRuns : ∃ (s : State) (i : Instr), s.fsm = .dispatching ∧ s.input.rst = false ∧
    s.rxLen ≤ 256 ∧ s.input.respValid = true ∧ s.request.respond s.input.resp = some i :=
  ⟨driven (held .dispatching dec3) (answer (.regs [0x0001])), .readHoldingRegistersRsp 0x01 [0x0001], by decide +kernel⟩
/-- The cycles of R109's table, with their neighbours: a 256th and a 257th byte, a body byte and a CRC byte. -/
theorem test_witness_GeneratorsFollowTheirSchedule :
    (∃ t, step (driven State.reset resetting) = .next t) ∧
    (∃ t, step (driven State.reset (Inputs.rxByte 0x01)) = .next t) ∧
    (∃ t, step (driven { held .receiving dec3 with rxLen := 255 } (Inputs.rxByte 0x01)) = .next t) ∧
    (∃ t, step (driven { held .receiving dec3 with rxLen := 256 } (Inputs.rxByte 0x01)) = .next t) ∧
    (∃ t, step (driven (held .dispatching dec3) (answer (.regs [0x0001]))) = .next t ∧ t.fsm = .responding) ∧
    (∃ t, step (driven (sending [0x01, 0x83, 0x02] 2) Inputs.quiet) = .next t) ∧
    ∃ t, step (driven (sending [0x01, 0x83, 0x02] 3) Inputs.quiet) = .next t :=
  ⟨⟨_, rfl⟩, ⟨_, rfl⟩, steps ⟨by decide, by decide⟩, steps ⟨by decide, by decide⟩,
    ⟨_, step_eq fun _ => ⟨by decide, by decide⟩, by decide +kernel⟩, steps ⟨by decide, by decide⟩,
    steps ⟨by decide, by decide⟩⟩
theorem test_witness_FixedRequestsReachTheDispatcher :
    (held .validating dec1).rxFrame = encodeFrame [0x01, 0x01, hi 0, lo 0, hi 10, lo 10] ∧
    (held .validating dec6).rxFrame = encodeFrame [0x01, 0x06, hi 104, lo 104, hi 0xA5A5, lo 0xA5A5] := by
  decide +kernel
/-- No payload, and a payload of 247 bytes. -/
theorem test_witness_MultipleRequestsReachTheDispatcher :
    (∃ s : State, (0x00#8).toNat = ([] : List Byte).length ∧
      s.rxFrame = encodeFrame ([0x01, 0x0F, hi 0, lo 0, hi 0, lo 0, 0x00] ++ [])) ∧
    ∃ s : State, (0xF7#8).toNat = (List.replicate 247 0x5A#8).length ∧
      s.rxFrame = encodeFrame ([0x01, 0x10, hi 0, lo 0, hi 123, lo 123, 0xF7] ++ List.replicate 247 0x5A#8) :=
  ⟨⟨held .validating _, rfl, held_rxFrame _ _⟩, ⟨held .validating _, by decide +kernel, held_rxFrame _ _⟩⟩
theorem test_witness_RequestsOnlyEnterDispatching :
    ∃ f, encode (.readCoils 0x01 0 10) = .request f := ⟨_, rfl⟩
theorem test_witness_BitReadsLoadTheirBody :
    (1 ≤ [true].length ∧ [true].length ≤ 2000) ∧
    1 ≤ (List.replicate 2000 true).length ∧ (List.replicate 2000 true).length ≤ 2000 := by decide +kernel
theorem test_witness_RegisterReadsLoadTheirBody :
    (1 ≤ [0x0001#16].length ∧ [0x0001#16].length ≤ 125) ∧
    1 ≤ (List.replicate 125 0x0001#16).length ∧ (List.replicate 125 0x0001#16).length ≤ 125 := by decide +kernel
theorem test_witness_WritesLoadTheirEcho :
    ((0x10#8, .writeMultipleRegistersRsp 0x01 100 2) : Byte × Instr) ∈
      [(0x05#8, .writeSingleCoilRsp 0x01 100 2), (0x06#8, .writeSingleRegisterRsp 0x01 100 2),
        (0x0F#8, .writeMultipleCoilsRsp 0x01 100 2), (0x10#8, .writeMultipleRegistersRsp 0x01 100 2)] := by
  decide +kernel
theorem test_witness_ExceptionLoadsItsBody :
    ∃ code : Byte, code = 0x01#8 ∨ code = 0x02#8 ∨ code = 0x03#8 := ⟨0x03, .inr (.inr rfl)⟩
/-- No item, one item too many, and the codes 0 and 4 on either side of the legal ones. -/
theorem test_witness_UnfitResponsesAreRefused :
    (∃ s t : State, t = { s with ev := s.ev ||| 0x80#8, fsm := if s.stopPending then .stopped else .idle }) ∧
    ([] : List Bool).length = 0 ∧ 2000 < (List.replicate 2001 true).length ∧
    ([] : List Word).length = 0 ∧ 125 < (List.replicate 126 0x0001#16).length ∧
    (0x00#8 ≠ 0x01#8 ∧ 0x00#8 ≠ 0x02#8 ∧ 0x00#8 ≠ 0x03#8) ∧ (0x04#8 ≠ 0x01#8 ∧ 0x04#8 ≠ 0x02#8 ∧ 0x04#8 ≠ 0x03#8) :=
  ⟨⟨held .dispatching dec3, _, rfl⟩, by decide +kernel⟩
theorem test_witness_CrcHoldKeepsTheRegister :
    ({ State.reset with rxCrc := 0x807E#16 } : State).crcReg .rx = 0x807E#16 ∧
    ({ State.reset with txCrc := 0x807E#16 } : State).crcReg .tx = 0x807E#16 := ⟨rfl, rfl⟩
theorem test_witness_CrcInitUpdateStartsAFreshCrc : ∃ t, exec (.crcInit .rx) State.reset = .next t := ⟨_, rfl⟩
theorem test_witness_CrcIsALeftFold : ∃ c : Word, c = crc16 [0x01, 0x03] := ⟨_, rfl⟩
theorem test_witness_CrcIsAffine : dec1.length = dec3.length := rfl
/-- The first byte and the last. -/
theorem test_witness_SingleByteErrorIsDetected : crcOk dec3 = true ∧ 0 < dec3.length ∧ 0x02#8 ≠ byteAt dec3 0 ∧
    7 < dec3.length ∧ 0xD7#8 ≠ byteAt dec3 7 := by decide +kernel
/-- A frame of 4 bytes, and a state in the invariant that holds one. -/
theorem test_witness_FrameCheckIsAZeroRegister :
    (4 ≤ ([0x01, 0x07, 0x41, 0xE2] : List Byte).length) ∧
    ∃ s : State, s.Inv ∧ s.holdsFrame ∧ 4 ≤ s.rxLen :=
  ⟨by decide, held .dispatching dec3, dispatching_inv, .inr (.inr rfl), by decide +kernel⟩
/-- The shortest frame with a CRC field, a built body, and the last of two registers. -/
theorem test_witness_WordsAreBigEndianAndTheCrcLittle :
    2 ≤ ([0x05, 0xD6] : List Byte).length ∧
    echoBody 1 5 10 20 ∈ [requestBody 1 5 10 20, requestBodyM 1 5 10 20 0 [], echoBody 1 5 10 20] ∧
    1 < ([0x0001, 0xE240] : List Word).length := by decide
/-- The last data byte of 9 items. -/
theorem test_witness_BitsArePackedLsbFirst : 1 < ((List.replicate 9 true).length + 7) / 8 := by decide +kernel
/-- The last of 16 items in 2 bytes, and the last of 2 words. -/
theorem test_witness_UnpackingReadsBackItems :
    (15 < 16 ∧ (16 + 7) / 8 ≤ ([0xCD, 0x01] : List Byte).length) ∧
    1 < ([0x00, 0x01, 0xE2, 0x40] : List Byte).length / 2 := by decide
/-- A request of either format, with no payload and with the longest. -/
theorem test_witness_RequestsDecodeFromTheirEncoding :
    (∃ f, (Instr.readCoils 0x01 0 10).wellFormed = true ∧ encode (.readCoils 0x01 0 10) = .request f) ∧
    (∃ f, (Instr.writeMultipleCoils 0x01 0 0 0x00 []).wellFormed = true ∧
      encode (.writeMultipleCoils 0x01 0 0 0x00 []) = .request f) ∧
    ∃ f, (Instr.writeMultipleRegisters 0x01 0 123 0xF7 (List.replicate 247 0)).wellFormed = true ∧
      encode (.writeMultipleRegisters 0x01 0 123 0xF7 (List.replicate 247 0)) = .request f :=
  ⟨⟨_, rfl, rfl⟩, ⟨_, rfl, rfl⟩, ⟨_, by decide +kernel, rfl⟩⟩
theorem test_witness_DecodedRequestsEncodeToTheirFrame : ∃ g,
    decode (.request dec8) = .ok (.writeMultipleRegisters 0x01 100 2 0x04 [0x00, 0x01, 0xE2, 0x40]) ∧
    encode (.writeMultipleRegisters 0x01 100 2 0x04 [0x00, 0x01, 0xE2, 0x40]) = .request g :=
  ⟨_, by decide +kernel, rfl⟩
theorem test_witness_DecodedInstructionsAreWellFormed :
    decode (.request dec7) = .ok (.writeMultipleCoils 0x01 19 10 0x02 [0xCD, 0x01]) ∧
    decode (.response [0x01, 0x87, 0x01, 0x82, 0x30]) = .ok (.illegalFunctionRsp 0x01 0x07) := by decide +kernel
/-- The most registers, each exception's kind, and the largest unsupported code below 0x80. -/
theorem test_witness_ResponsesDecodeFromTheirFrames :
    (Instr.readInputRegistersRsp 0x01 (List.replicate 125 0)).wellFormed = true ∧
    (Instr.exceptionRsp 0x01 0x10 0x03).wellFormed = true ∧
    (Instr.illegalFunctionRsp 0x01 0x7F).wellFormed = true ∧ (0x7F#8).toNat < 128 := by decide +kernel
theorem test_witness_BitReadsDecodeToWholeBytes :
    (1 ≤ [true].length ∧ [true].length ≤ 2000 ∧
      List.replicate 7 false = List.replicate (8 * (([true].length + 7) / 8) - [true].length) false) ∧
    1 ≤ (List.replicate 2000 true).length ∧ (List.replicate 2000 true).length ≤ 2000 := by decide +kernel
/-- The shortest frame, and the longest. -/
theorem test_witness_UnsupportedCodesAreAnswered :
    (([0x01, 0x07, 0x41, 0xE2] : List Byte).length ≤ 256 ∧ crcOk [0x01, 0x07, 0x41, 0xE2] = true ∧
      byteAt [0x01, 0x07, 0x41, 0xE2] 1 ∉ supportedCodes) ∧
    ∃ f : List Byte, f.length = 256 ∧ crcOk f = true ∧ byteAt f 1 ∉ supportedCodes :=
  ⟨by decide +kernel, encodeFrame ([0x01, 0x07] ++ List.replicate 252 0), by rw [encodeFrame_length]; decide +kernel,
    crcOk_encodeFrame (by decide +kernel), by rw [byteAt_encodeFrame (by decide +kernel)]; decide +kernel⟩
theorem test_witness_ResetWritesEveryField : (driven (held .dispatching dec3) resetting).input.rst = true := rfl
theorem test_witness_ResetQuietsTheOutputs :
    ∃ t, (driven (sending [0x01, 0x83, 0x02] 1) resetting).input.rst = true ∧
      step (driven (sending [0x01, 0x83, 0x02] 1) resetting) = .next t := ⟨_, rfl, rfl⟩
theorem test_witness_ResetStateIsAResetCycle : ∃ s : State, s.input.rst = true ∧ s.input.cfgUnitId = 0 ∧
    s.input.cfgPromisc = false := ⟨driven (held .dispatching dec3) { Inputs.quiet with rst := true }, rfl, rfl, rfl⟩
theorem test_witness_ConfigurationIsWrittenOnlyAtReset :
    (∃ s t : State, step s = .next t ∧ s.input.rst = true) ∧
    ∃ s t : State, step s = .next t ∧ s.input.rst = false ∧ s.input.cfgUnitId ≠ s.cfgUnitId :=
  ⟨⟨driven (held .dispatching dec3) resetting, _, rfl, rfl⟩,
    ⟨driven (held .idle dec3) Inputs.quiet, _, rfl, rfl, by decide +kernel⟩⟩
theorem test_witness_SilenceIsCounted : ∃ s t : State, s.input.rst = false ∧ step s = .next t :=
  ⟨driven State.reset Inputs.quiet, _, rfl, rfl⟩
theorem test_witness_StopIsLatched :
    (∃ s t : State, step s = .next t ∧ s.input.rst = false ∧ s.input.stop = true) ∧
    ∃ s t : State, step s = .next t ∧ s.stopPending = true ∧ t.stopPending = false :=
  ⟨⟨driven State.reset { Inputs.quiet with stop := true }, _, rfl, rfl, rfl⟩,
    ⟨driven { State.reset with fsm := .stopped, stopPending := true } resetting, _, rfl, rfl, rfl⟩⟩
theorem test_witness_OutputsFollowTheState :
    (sending [0x01, 0x83, 0x02] 1).fsm = .responding ∧ (held .dispatching dec3).fsm = .dispatching := ⟨rfl, rfl⟩
/-- Inputs that differ where a reset cycle, DISPATCHING and STOPPED do not read them. -/
theorem test_witness_UnreadInputsChangeNothing :
    (∃ i j : Inputs, i ≠ j ∧ i.rst = j.rst ∧ i.rst = true ∧ i.cfgUnitId = j.cfgUnitId ∧ i.cfgPromisc = j.cfgPromisc) ∧
    (∃ (s : State) (i j : Inputs), i ≠ j ∧ i.rst = j.rst ∧ i.rst = false ∧ i.rxValid = j.rxValid ∧ i.rxValid = true ∧
      ¬ (s.fsm = .idle ∨ s.fsm = .receiving) ∧ s.fsm ≠ .stopped ∧ i.stop = j.stop ∧ s.fsm = .dispatching ∧
      i.respValid = j.respValid ∧ i.resp = j.resp) ∧
    ∃ (s : State) (i j : Inputs), i ≠ j ∧ i.rst = j.rst ∧ i.rst = false ∧ i.rxValid = j.rxValid ∧
      i.rxValid = false ∧ s.fsm = .stopped ∧ s.stopPending = true ∧ i.stop ≠ j.stop :=
  ⟨⟨resetting, { resetting with stop := true }, by decide +kernel⟩,
    ⟨held .dispatching dec3, Inputs.rxByte 0x01, Inputs.rxByte 0x02, by decide +kernel⟩,
    ⟨{ State.reset with fsm := .stopped, stopPending := true }, Inputs.quiet, { Inputs.quiet with stop := true },
      by decide +kernel⟩⟩
/-- A byte with a frame whose CRC is wrong, with an unsupported code (V-SEQ-3), and with a refused Response. -/
theorem test_witness_AtMostTwoEventsMeet :
    (∃ s t : State, step s = .next t ∧ s.input.rst = false ∧ s.fsm = .validating ∧ s.input.rxValid = true ∧
      validate s = .ignore .crc) ∧
    (∃ s t : State, step s = .next t ∧ s.input.rst = false ∧ s.fsm = .validating ∧ s.input.rxValid = true ∧
      validate s = .respondException 0x01 0x07 0x01) ∧
    ∃ s t : State, step s = .next t ∧ s.input.rst = false ∧ s.fsm = .dispatching ∧ s.input.rxValid = true ∧
      s.input.respValid = true ∧ encodeResponse s.request s.input.resp = none :=
  ⟨⟨driven (held .validating (dec3.take 7 ++ [0xD7])) (Inputs.rxByte 0x01), _,
      step_eq fun _ => ⟨by decide +kernel, by decide +kernel⟩, by decide +kernel⟩,
    ⟨driven (held .validating [0x01, 0x07, 0x41, 0xE2]) (Inputs.rxByte 0x01), _,
      step_eq fun _ => ⟨by decide +kernel, by decide +kernel⟩, by decide +kernel⟩,
    ⟨driven (held .dispatching dec3) { Inputs.rxByte 0x01 with respValid := true, resp := .bits [true] }, _,
      step_eq fun _ => ⟨by decide +kernel, by decide +kernel⟩, by decide +kernel⟩⟩
/-- One state of each kind, the pending stop's answer among them. -/
theorem test_witness_TransitionsFollowTheGraph :
    ∀ f ∈ [Fsm.idle, .receiving, .validating, .dispatching, .responding, .stopped],
      ∃ (s t : State) (done : Fsm), s.input.rst = false ∧ step s = .next t ∧
        done = (if s.stopPending = true ∨ s.input.stop = true then .stopped else .idle) ∧ s.fsm = f := by
  intro f _
  refine ⟨driven { held f dec3 with txLen := 3 } Inputs.quiet, _, _, rfl, step_eq fun _ => ⟨?_, ?_⟩, rfl, rfl⟩
  · exact fun _ => (by decide : 8 ≤ 256)
  · exact fun _ _ => (by decide : 0 < 253)
theorem test_witness_AnyByteStartsAFrame : ∃ s : State, s.fsm = .idle ∧ s.input.rst = false ∧ s.input.rxValid = true ∧
    s.stopPending = false ∧ s.input.stop = false := ⟨driven State.reset (Inputs.rxByte 0x00), rfl, rfl, rfl, rfl, rfl⟩
/-- The 256th byte, and the 257th. -/
theorem test_witness_FurtherBytesAreAppended :
    ∀ n ∈ [1, 255, 256], ∃ s : State, s.fsm = .receiving ∧ s.input.rst = false ∧ s.input.rxValid = true ∧
      s.input.stop = false ∧ s.rxLen = n :=
  fun n _ => ⟨driven { held .receiving [0x01] with rxLen := n } (Inputs.rxByte 0x03), rfl, rfl, rfl, rfl, rfl⟩
/-- One frame for each clause: V-VAL-1, 2, 4, 5, 9, 13, 15 and V-DEC-3; the shortest that is no short frame among
them. -/
theorem test_witness_FirstFailingCheckDecides :
    let meets (s : State) (v : Verdict) : Prop :=
      s.fsm = .validating ∧ s.input.rst = false ∧ s.rxLen ≤ 256 ∧ validate s = v
    meets (driven { held .validating dec3 with rxLen := 256, rxOvf := true } Inputs.quiet) (.ignore .overrun) ∧
    meets (driven (held .validating [0x01, 0x03, 0x00]) Inputs.quiet) (.ignore .short) ∧
    meets (driven (held .validating [0x01, 0x07, 0x00, 0x00]) Inputs.quiet) (.ignore .crc) ∧
    meets (driven (held .validating [0x02, 0x03, 0x00, 0x64, 0x00, 0x04, 0x05, 0xE5]) Inputs.quiet)
      (.ignore .notAddr) ∧
    meets (driven (held .validating [0x01, 0x07, 0x41, 0xE2]) Inputs.quiet) (.respondException 0x01 0x07 0x01) ∧
    meets (driven (held .validating [0x01, 0x03, 0x00, 0x64, 0x00, 0x04, 0x00, 0x16, 0x03]) Inputs.quiet)
      (.ignore .length) ∧
    meets (driven (held .validating [0x01, 0x0F, 0x00, 0x00, 0x00, 0x00, 0x55, 0xCB]) Inputs.quiet) (.ignore .length) ∧
    meets (driven (held .validating dec3) Inputs.quiet) (.dispatch ⟨0x01, 0x03, 100, 4, 0, []⟩) := by
  decide +kernel
/-- An accepted Response, and a refused one. -/
theorem test_witness_DispatchingLoadsTheEncodedResponse :
    ∀ r ∈ [Response.regs [0x0001], .writeOk], ∃ s : State, s.fsm = .dispatching ∧ s.input.rst = false ∧
      s.rxLen ≤ 256 ∧ s.input.respValid = true ∧ s.input.resp = r :=
  fun r _ => ⟨driven (held .dispatching dec3) (answer r), rfl, rfl, by simp [driven, held, dec3], rfl, rfl⟩
/-- For the last clause: silence in either state, and a byte with a stop requested or pending (V-RX-11, V-RX-12). -/
theorem test_witness_HeldRequestDoesNotChange :
    (∃ s t : State, s.fsm = .dispatching ∧ step s = .next t ∧ t.fsm = .dispatching) ∧
    (∃ s t : State, s.fsm ≠ .idle ∧ s.fsm ≠ .receiving ∧ s.input.rst = false ∧ step s = .next t) ∧
    ∀ s ∈ [driven (held .idle []) Inputs.quiet, driven (held .receiving [0x01]) Inputs.quiet,
        driven (held .receiving [0x01]) { Inputs.rxByte 0x03 with stop := true },
        driven (held .idle []) { Inputs.rxByte 0x01 with stop := true },
        driven { held .idle [] with stopPending := true } (Inputs.rxByte 0x01)],
      s.input.rst = false ∧
      ((s.fsm = .idle ∧ (s.input.rxValid = false ∨ s.stopPending = true ∨ s.input.stop = true)) ∨
        (s.fsm = .receiving ∧ (s.input.rxValid = false ∨ s.input.stop = true))) :=
  ⟨⟨driven (held .dispatching dec3) (Inputs.rxByte 0x01), _, rfl,
      step_eq fun _ => ⟨by decide +kernel, by decide +kernel⟩, by decide +kernel⟩,
    ⟨driven (sending [0x01, 0x83, 0x02] 4) (Inputs.rxByte 0x01), _, by decide, by decide, rfl,
      step_eq fun _ => ⟨by decide +kernel, by decide +kernel⟩⟩,
    by decide +kernel⟩
/-- Two cycles without an answer, a stop request in the second. -/
theorem test_witness_SilentDispatcherHoldsTheCodec : ∃ s : State, s.fsm = .dispatching ∧ s.rxLen ≤ 256 ∧
    2 ≤ s.inputs.length ∧ (∀ i ∈ s.inputs.take 2, i.rst = false ∧ i.respValid = false) ∧
    ∃ i ∈ s.inputs.take 2, i.stop = true :=
  ⟨{ held .dispatching dec3 with inputs := [Inputs.quiet, { Inputs.quiet with stop := true }] }, by decide +kernel⟩
/-- A transfer of the last body byte, one of the last CRC byte, and a stall. -/
theorem test_witness_TransfersAdvanceAndStallsHold :
    (∀ n ∈ [2, 4], ∃ s t : State, s.fsm = .responding ∧ s.input.rst = false ∧ step s = .next t ∧
      s.input.txReady = true ∧ s.txIdx = n) ∧
    ∃ s t : State, s.fsm = .responding ∧ s.input.rst = false ∧ step s = .next t ∧ s.input.txReady = false :=
  ⟨fun n _ => ⟨driven (sending [0x01, 0x83, 0x02] n) Inputs.quiet, _, rfl, rfl,
      step_eq fun _ => ⟨fun _ => (by decide : 0 ≤ 256), fun _ h => Nat.lt_trans h (by decide : 3 < 253)⟩, rfl, rfl⟩,
    ⟨driven (sending [0x01, 0x83, 0x02] 0) { Inputs.quiet with txReady := false }, _, rfl, rfl,
      step_eq fun _ => ⟨by decide +kernel, by decide +kernel⟩, rfl⟩⟩
theorem test_witness_BytesWhileBusyAreDiscarded :
    ∀ f ∈ [Fsm.validating, .dispatching, .responding], ∃ (s t : State) (i : Inputs) (rest : List Inputs),
      s.fsm = f ∧ i.rst = false ∧ i.rxValid = false ∧ step { s with inputs := i :: rest } = .next t := by
  intro f _
  refine ⟨{ held f dec3 with txLen := 3 }, _, Inputs.quiet, [], rfl, rfl, rfl, step_eq fun _ => ⟨?_, ?_⟩⟩
  · exact fun _ => (by decide : 8 ≤ 256)
  · exact fun _ _ => (by decide : 0 < 253)
theorem test_witness_StoppedOnlyCountsSilence : ∃ s : State, s.fsm = .stopped ∧ s.input.rst = false :=
  ⟨driven { State.reset with fsm := .stopped, stopPending := true } (Inputs.rxByte 0x01), rfl, rfl⟩
/-- A body loaded for an answer, and one for an unsupported code. -/
theorem test_witness_BodiesHaveTheirLengths :
    encodeResponse ⟨0x01, 0x03, 0, 1, 0, []⟩ (.regs [0x0001]) = some [0x01, 0x03, 0x02, 0x00, 0x01] ∧
    ∃ s t : State, step s = .next t ∧ s.fsm ≠ .responding ∧ t.fsm = .responding :=
  ⟨by decide +kernel, driven (held .dispatching dec3) (answer (.regs [0x0001])), _,
    step_eq fun _ => ⟨by decide +kernel, by decide +kernel⟩, by decide +kernel⟩
theorem test_witness_ExceptionCodesOnTheWire : ∃ s t : State, step s = .next t ∧ s.fsm ≠ .responding ∧
    t.fsm = .responding ∧ (t.txBodyByte 1).getLsbD 7 = true :=
  ⟨driven (held .validating [0x01, 0x07, 0x41, 0xE2]) Inputs.quiet, _,
    step_eq fun _ => ⟨by decide +kernel, by decide +kernel⟩, by decide +kernel⟩
theorem test_witness_ResponsesCarryTheRequestAddress : ∃ s t : State, s.Inv ∧ step s = .next t ∧
    s.fsm ≠ .responding ∧ t.fsm = .responding ∧ s.cfgPromisc = false :=
  ⟨driven (held .dispatching dec3) (answer (.regs [0x0001])), _, driven_inv dispatching_inv _,
    step_eq fun _ => ⟨by decide +kernel, by decide +kernel⟩, by decide +kernel⟩
theorem test_witness_EveryStepKeepsTheInvariant : ∃ s t : State, s.Inv ∧ step s = .next t :=
  ⟨driven (held .dispatching dec3) Inputs.quiet, _, driven_inv dispatching_inv _,
    step_eq fun _ => ⟨by decide +kernel, by decide +kernel⟩⟩
theorem test_witness_StoresStayCanonical : ∃ s t : State, Memory.wf 256 s.rxBuf = true ∧
    Memory.wf 253 s.txBody = true ∧ step s = .next t :=
  ⟨driven State.reset (Inputs.rxByte 0x01), _, rfl, rfl, rfl⟩
/-- The longest lengths, and a reset cycle with longer ones. -/
theorem test_witness_EveryCycleHasANextState :
    (∃ s : State, s.rxLen = 256 ∧ s.rxLen ≤ 256 ∧ s.txLen = 253 ∧ s.txLen ≤ 253) ∧
    ∃ s : State, s.input.rst = true ∧ ¬ s.rxLen ≤ 256 :=
  ⟨⟨{ State.reset with rxLen := 256, txLen := 253 }, by decide +kernel⟩,
    ⟨driven { State.reset with rxLen := 257 } resetting, by decide +kernel⟩⟩

/-- The schedule of a frame and the silence after it. -/
def delivery (f : List Byte) : List Inputs :=
  f.map Inputs.rxByte ++ List.replicate Config.t35Cycles Inputs.quiet ++ []

/-- Any frame has a delivery of one byte per cycle. -/
theorem delivery_meets (f : List Byte) : ∃ bytes quiet rest : List Inputs,
    bytes.map Inputs.rxData = f ∧ quiet.length = Config.t35Cycles ∧
    (∀ i ∈ bytes, i.rst = false ∧ i.stop = false ∧ i.rxValid = true) ∧
    (∀ i ∈ quiet, i.rst = false ∧ i.stop = false ∧ i.rxValid = false) ∧ delivery f = bytes ++ quiet ++ rest := by
  refine ⟨f.map Inputs.rxByte, List.replicate Config.t35Cycles Inputs.quiet, [], ?_, by simp, ?_, ?_, rfl⟩
  · rw [List.map_map]; exact List.map_id' f
  · intro i hi
    obtain ⟨b, -, rfl⟩ := List.mem_map.mp hi
    exact ⟨rfl, rfl, rfl⟩
  · intro i hi
    rw [List.eq_of_mem_replicate hi]
    exact ⟨rfl, rfl, rfl⟩

/-- A request of each format, the REQM one with no payload and with the longest. -/
theorem test_witness_DeliveredRequestsAreDispatched :
    ∀ q ∈ [(⟨0x01, 0x06, 104, 0xA5A5, 0, []⟩ : Request), ⟨0x01, 0x0F, 0, 0, 0, []⟩,
        ⟨0x01, 0x10, 0, 123, 0xF7, List.replicate 247 0x5A⟩],
      supportedFc q.fc = true ∧ (isMultiple q.fc = false → q.bc = 0 ∧ q.data = []) ∧
      (isMultiple q.fc = true → q.bc.toNat = q.data.length ∧ q.data.length ≤ 247) ∧
      ∃ s : State, q.addr = s.cfgUnitId ∧ s.fsm = .idle ∧ s.stopPending = false ∧
        s.inputs = delivery (encodeRequest q) := by
  intro q hq
  have hs : q.addr = 0x01 ∧ supportedFc q.fc = true ∧ (isMultiple q.fc = false → q.bc = 0 ∧ q.data = []) ∧
      (isMultiple q.fc = true → q.bc.toNat = q.data.length ∧ q.data.length ≤ 247) := by
    revert q; decide +kernel
  exact ⟨hs.2.1, hs.2.2.1, hs.2.2.2,
    { State.reset with cfgUnitId := 0x01, inputs := delivery (encodeRequest q) }, hs.1, rfl, rfl, rfl⟩
/-- Byte 0, byte 1 turned into an unsupported code, and the last byte. -/
theorem test_witness_CorruptedRequestsAreDropped :
    (∀ k ∈ [0, 1, 12], k < (encodeRequest ⟨0x01, 0x10, 100, 2, 4, [0x00, 0x01, 0xE2, 0x40]⟩).length ∧
      0xFF#8 ≠ byteAt (encodeRequest ⟨0x01, 0x10, 100, 2, 4, [0x00, 0x01, 0xE2, 0x40]⟩) k ∧
      ¬ (k = 1 ∧ isMultiple 0x10#8 = true ∧ isReq8 0xFF#8 = true)) ∧
    ∃ s : State, s.fsm = .idle ∧ s.stopPending = false ∧
      s.inputs = delivery ((encodeRequest ⟨0x01, 0x10, 100, 2, 4, [0x00, 0x01, 0xE2, 0x40]⟩).set 1 0xFF) :=
  ⟨by decide +kernel, { State.reset with inputs := delivery _ }, rfl, rfl, rfl⟩
/-- The five transfers of V-ENC-10, a stall among them; and four, with a reset in the cycle of the fifth. -/
theorem test_witness_TransmittedBytesAreTheFrame :
    (∃ (s : State) (ready : Nat → Nat), s.Inv ∧ s.fsm = .responding ∧ s.txIdx = 0 ∧ 6 ≤ s.inputs.length ∧
      (∀ i ∈ s.inputs.take 6, i.rst = false) ∧
      (∀ k, ready k = ((s.inputs.take k).filter Inputs.txReady).length) ∧ ready 6 = s.txLen + 2 ∧
      ready 5 = s.txLen + 1) ∧
    ∃ (s : State) (ready : Nat → Nat) (i : Inputs), s.Inv ∧ s.fsm = .responding ∧ s.txIdx = 0 ∧
      4 ≤ s.inputs.length ∧ (∀ i ∈ s.inputs.take 4, i.rst = false) ∧
      (∀ k, ready k = ((s.inputs.take k).filter Inputs.txReady).length) ∧ ready 4 < s.txLen + 2 ∧
      s.inputs[4]? = some i ∧ i.rst = true ∧ i.txReady = true :=
  ⟨⟨{ sending [0x01, 0x83, 0x02] 0 with
        inputs := { Inputs.quiet with txReady := false } :: List.replicate 5 Inputs.quiet }, _,
      scheduled_inv responding_inv _, rfl, rfl, by decide +kernel, by decide +kernel, fun _ => rfl, by decide +kernel,
      by decide +kernel⟩,
    ⟨{ sending [0x01, 0x83, 0x02] 0 with inputs := List.replicate 4 Inputs.quiet ++ [resetting] }, _, resetting,
      scheduled_inv responding_inv _, rfl, rfl, by decide +kernel, by decide +kernel, fun _ => rfl, by decide +kernel,
      by decide +kernel, rfl, rfl⟩⟩

end Sys2Proof.Tests
end

section
/-! PROOFS. spec/10_state.md: the stop latch (R28) and the output ports (R31). -/

namespace Sys2Proof.Machine

/-! ### What a branch leaves as the common updates gave it -/

theorem startState_stopPending (b : Byte) (s : State) : (startState b s).stopPending = s.stopPending := rfl

theorem appendState_stopPending (b : Byte) (s : State) : (appendState b s).stopPending = s.stopPending := by
  unfold appendState
  split <;> rfl

/-- Only the common updates and a reset cycle write the stop latch (R28); no branch does. -/
theorem branchState_stopPending (t35 : Nat) (i : Inputs) (s : State) :
    (branchState t35 i s).stopPending = s.stopPending := by
  unfold branchState
  cases s.fsm with
  | idle =>
    dsimp only
    split
    · rfl
    · split
      · exact startState_stopPending i.rxData s
      · rfl
  | receiving =>
    dsimp only
    split
    · rfl
    · split
      · split <;> exact appendState_stopPending i.rxData s
      · split <;> rfl
  | validating => cases validate s <;> rfl
  | dispatching =>
    dsimp only
    split
    · cases encodeResponse s.request i.resp <;> rfl
    · rfl
  | responding =>
    dsimp only
    split
    · split <;> rfl
    · rfl
  | stopped => rfl

/-! ### The stop latch over a cycle -/

theorem nextState_stopPending_of_reset (t35 : Nat) {i : Inputs} (h : i.rst = true) (s : State) :
    (nextState t35 i s).stopPending = false := by
  rw [nextState, if_pos h]
  rfl

theorem nextState_stopPending (t35 : Nat) {i : Inputs} (h : i.rst = false) (s : State) :
    (nextState t35 i s).stopPending = (s.stopPending || i.stop) := by
  simp only [nextState, h, Bool.false_eq_true, if_false, branchState_stopPending, State.beginCycle_stopPending]

/-- Settles O37: no branch writes the latch, so a cycle that does not reset leaves the common updates' value, which is
set wherever the latch was. -/
theorem stopIsLatched : Obligations.StopIsLatched := by
  intro s t h
  have latch : s.input.rst = false → t.stopPending = (s.stopPending || s.input.stop) := fun hrst => by
    rw [step_next h, nextState_stopPending _ hrst, State.popInput_stopPending]
  refine ⟨latch, fun hset hclear => ?_⟩
  by_contra hrst
  have hkept := latch (Bool.eq_false_iff.mpr hrst)
  simp [hset, hclear] at hkept

/-! ### The output ports -/

theorem State.txValid_iff (s : State) : s.txValid = true ↔ s.fsm = .responding := by simp [State.txValid]

theorem State.reqValid_iff (s : State) : s.reqValid = true ↔ s.fsm = .dispatching := by simp [State.reqValid]

theorem State.busy_iff (s : State) :
    s.busy = true ↔ s.fsm = .validating ∨ s.fsm = .dispatching ∨ s.fsm = .responding := by
  simp [State.busy, or_assoc]

theorem State.outputs_stopped_iff (s : State) : s.outputs.stopped = true ↔ s.fsm = .stopped := by
  simp [State.outputs]

/-- R31: `tx_data` is `tx_byte` while `tx_valid` is 1. -/
theorem State.outputs_txData {s : State} (h : s.txValid = true) : s.outputs.txData = s.txByte := if_pos h

/-- R31: `req` is the held Request while `req_valid` is 1. -/
theorem State.outputs_req {s : State} (h : s.reqValid = true) : s.outputs.req = s.request := if_pos h

/-- Settles O38: the two data ports carry their values where their valid ports are 1, and each other port is read off
`fsm` or `ev`. -/
theorem outputsFollowTheState : Obligations.OutputsFollowTheState := fun s =>
  ⟨s.txValid_iff, fun h => State.outputs_txData (s.txValid_iff.mpr h),
    s.reqValid_iff, fun h => State.outputs_req (s.reqValid_iff.mpr h),
    rfl, rfl, s.busy_iff, s.outputs_stopped_iff⟩

end Sys2Proof.Machine
end

section
/-! PROOFS. spec/20_memory.md: the held frame outside the receive states, and the cycles of the receive states that take
no byte (R59). -/

namespace Sys2Proof.Machine

/-! ### The held frame -/

/-- Two states hold the same frame: the same store and length, with the same free bytes under the unwritten entries. -/
structure State.SameFrame (s t : State) : Prop where
  rxBuf : t.rxBuf = s.rxBuf
  rxLen : t.rxLen = s.rxLen
  epoch : t.epoch = s.epoch

theorem State.SameFrame.rxByte {s t : State} (h : s.SameFrame t) : t.rxByte = s.rxByte := by
  funext k
  simp only [State.rxByte, h.rxBuf, h.epoch]

theorem State.SameFrame.rxFrame {s t : State} (h : s.SameFrame t) : t.rxFrame = s.rxFrame := by
  rw [State.rxFrame, State.rxFrame, h.rxByte, h.rxLen]

theorem State.SameFrame.request {s t : State} (h : s.SameFrame t) : t.request = s.request :=
  congrArg decodeRequest h.rxFrame

/-- Only the branches of IDLE and RECEIVING write the receive store. -/
theorem branchState_sameFrame (t35 : Nat) (i : Inputs) {s : State} (hi : s.fsm ≠ .idle) (hr : s.fsm ≠ .receiving) :
    s.SameFrame (branchState t35 i s) := by
  unfold branchState
  cases hf : s.fsm with
  | idle => exact absurd hf hi
  | receiving => exact absurd hf hr
  | validating => cases validate s <;> exact ⟨rfl, rfl, rfl⟩
  | dispatching =>
    dsimp only
    split
    · cases encodeResponse s.request i.resp <;> exact ⟨rfl, rfl, rfl⟩
    · exact ⟨rfl, rfl, rfl⟩
  | responding =>
    dsimp only
    split
    · split <;> exact ⟨rfl, rfl, rfl⟩
    · exact ⟨rfl, rfl, rfl⟩
  | stopped => exact ⟨rfl, rfl, rfl⟩

theorem nextState_of_running (t35 : Nat) {i : Inputs} (h : i.rst = false) (s : State) :
    nextState t35 i s = branchState t35 i (s.beginCycle t35 i) := by
  simp only [nextState, h, Bool.false_eq_true, if_false]

theorem nextState_fsm_of_reset (t35 : Nat) {i : Inputs} (h : i.rst = true) (s : State) :
    (nextState t35 i s).fsm = .idle := by
  rw [nextState, if_pos h]
  rfl

theorem step_sameFrame {s t : State} (hi : s.fsm ≠ .idle) (hr : s.fsm ≠ .receiving) (hrst : s.input.rst = false)
    (h : step s = .next t) : s.SameFrame t := by
  obtain ⟨hbuf, hlen, hepoch⟩ := branchState_sameFrame Config.t35Cycles s.input
    (s := s.popInput.beginCycle Config.t35Cycles s.input) hi hr
  rw [step_next h, nextState_of_running _ hrst]
  exact ⟨hbuf, hlen, hepoch⟩

/-! ### Cycles that take no byte -/

/-- No byte is taken in silence (R126) or where a stop wins over the byte (R201, R202); then the branch writes at most
`fsm`. Stated on the state the common updates give, whose stop latch this cycle's stop has set. -/
theorem branchState_of_no_byte (t35 : Nat) (i : Inputs) {s : State}
    (h : (s.fsm = .idle ∧ (i.rxValid = false ∨ s.stopPending = true)) ∨
      (s.fsm = .receiving ∧ (i.rxValid = false ∨ i.stop = true))) :
    ∃ f, branchState t35 i s = { s with fsm := f } := by
  rcases h with ⟨hf, hno⟩ | ⟨hf, hno⟩ <;> simp only [branchState, hf]
  · by_cases hstop : s.stopPending = true
    · exact ⟨.stopped, if_pos hstop⟩
    · have hvalid : i.rxValid = false := hno.resolve_right hstop
      exact ⟨s.fsm, by rw [if_neg hstop, if_neg (by simp [hvalid])]⟩
  · by_cases hstop : i.stop = true
    · exact ⟨.stopped, if_pos hstop⟩
    · have hvalid : i.rxValid = false := hno.resolve_right hstop
      by_cases hgap : gapEnd t35 s = true
      · exact ⟨.validating, by simp [hstop, hvalid, hgap]⟩
      · exact ⟨s.fsm, by simp [hstop, hvalid, hgap]⟩

/-- A cycle that takes no byte has a next state, which is the common updates' but for `fsm`. -/
theorem step_of_no_byte {s : State} (hrst : s.input.rst = false)
    (h : (s.fsm = .idle ∧ (s.input.rxValid = false ∨ s.stopPending = true ∨ s.input.stop = true)) ∨
      (s.fsm = .receiving ∧ (s.input.rxValid = false ∨ s.input.stop = true))) :
    ∃ f, step s = .next { s.popInput.beginCycle Config.t35Cycles s.input with fsm := f } := by
  have hreceive : s.fsm = .idle ∨ s.fsm = .receiving := h.imp And.left And.left
  obtain ⟨f, hf⟩ := branchState_of_no_byte Config.t35Cycles s.input
    (s := s.popInput.beginCycle Config.t35Cycles s.input) (by simpa using h)
  refine ⟨f, ?_⟩
  rw [step_eq fun _ => State.readsInRange_of_receive hreceive, nextState_of_running _ hrst, hf]

/-- Settles O46: a step that stays in DISPATCHING is no reset and decodes the same frame again; outside IDLE and
RECEIVING no branch writes the receive store; and a cycle that takes no byte ends in the common updates' state but for
`fsm`. -/
theorem heldRequestDoesNotChange : Obligations.HeldRequestDoesNotChange := by
  refine ⟨fun s t hs h ht => ?_, fun s t hi hr hrst h => ?_, fun s hrst hno => ?_⟩
  · have hrst : s.input.rst = false := by
      by_contra hreset
      rw [step_next h, nextState_fsm_of_reset _ (by simpa using hreset)] at ht
      cases ht
    have hframe : s.SameFrame t := step_sameFrame (by simp [hs]) (by simp [hs]) hrst h
    rw [State.outputs_req (t.reqValid_iff.mpr ht), State.outputs_req (s.reqValid_iff.mpr hs), hframe.request]
  · have hframe : s.SameFrame t := step_sameFrame hi hr hrst h
    exact ⟨hframe.rxBuf, hframe.rxLen, hframe.rxFrame⟩
  · obtain ⟨f, hf⟩ := step_of_no_byte hrst hno
    exact ⟨_, hf, rfl, rfl, rfl, rfl, rfl, rfl, rfl, rfl, rfl, rfl, rfl, rfl⟩

end Sys2Proof.Machine
end

section
/-! PROOFS. spec/30_encoding.md: the order of the bytes of the 16-bit fields and of the CRC field (R74). -/

namespace Sys2Proof

theorem le16_toNat (x y : Byte) : (le16 x y).toNat = y.toNat * 256 + x.toNat := by rw [le16_eq_be16, be16_toNat]

/-- A REQ8 body, an echo body and the start of a REQM body are one layout (R75, R76): whatever follows it, bytes 2 to 5
are `a` and `b`, each high byte first. -/
theorem byteAt_requestBody_append (addr fc : Byte) (a b : Word) (rest : List Byte) :
    byteAt (requestBody addr fc a b ++ rest) 2 = hi a ∧ byteAt (requestBody addr fc a b ++ rest) 3 = lo a ∧
      byteAt (requestBody addr fc a b ++ rest) 4 = hi b ∧ byteAt (requestBody addr fc a b ++ rest) 5 = lo b :=
  ⟨rfl, rfl, rfl, rfl⟩

theorem echoBody_eq_requestBody (addr fc : Byte) (a b : Word) : echoBody addr fc a b = requestBody addr fc a b := rfl

/-- Word `k` stands in bytes `2k` and `2k + 1`, high byte first (R173). -/
theorem byteAt_wordBytes {w : List Word} {k : Nat} (h : k < w.length) :
    byteAt (wordBytes w) (2 * k) = hi (w.getD k 0) ∧ byteAt (wordBytes w) (2 * k + 1) = lo (w.getD k 0) := by
  induction w generalizing k with
  | nil => simp at h
  | cons x w ih =>
    cases k with
    | zero => exact ⟨rfl, rfl⟩
    | succ k => exact ih (Nat.lt_of_succ_lt_succ h)

theorem byteAt_regsBody (addr fc : Byte) (w : List Word) (i : Nat) :
    byteAt (regsBody addr fc w) (i + 3) = byteAt (wordBytes w) i := rfl

/-- Settles O22: the fields are `be16` and `le16` of their bytes, the bodies with `a` and `b` share one layout, and the
registers follow the three head bytes of their body. -/
theorem wordsAreBigEndianAndTheCrcLittle : Obligations.WordsAreBigEndianAndTheCrcLittle := by
  refine ⟨fun x y => ⟨be16_toNat x y, hi_be16 x y, lo_be16 x y⟩, be16_hi_lo,
    fun f => ⟨be16_toNat _ _, be16_toNat _ _⟩, fun addr fc a b bc data body hbody => ?bodies,
    fun addr fc w k hk => ?registers, fun f _ => le16_toNat _ _, fun _ => rfl⟩
  case bodies =>
    have layout : ∃ rest, body = requestBody addr fc a b ++ rest := by
      simp only [List.mem_cons, List.not_mem_nil, or_false] at hbody
      rcases hbody with rfl | rfl | rfl
      · exact ⟨[], (List.append_nil _).symm⟩
      · exact ⟨bc :: data, rfl⟩
      · exact ⟨[], by rw [echoBody_eq_requestBody, List.append_nil]⟩
    obtain ⟨rest, rfl⟩ := layout
    exact byteAt_requestBody_append addr fc a b rest
  case registers =>
    obtain ⟨hhi, hlo⟩ := byteAt_wordBytes hk
    rw [Nat.add_comm 3, show 4 + 2 * k = 2 * k + 1 + 3 by omega, byteAt_regsBody, byteAt_regsBody]
    exact ⟨hhi, hlo⟩

end Sys2Proof
end

section
/-! PROOFS. spec/40_crc.md: the CRC function (R101, R102), and the frame check as a zero register (R111). -/

namespace Sys2Proof

/-! ### The turns of the loop -/

theorem crcUpd_eq_iterate (c : Word) (b : Byte) : crcUpd c b = crcShift^[8] (c ^^^ b.setWidth 16) := rfl

theorem getLsbD_zero_iff (r : Word) : r.getLsbD 0 = true ↔ r.toNat % 2 = 1 := by
  simp [BitVec.getLsbD]

/-- An even register is halved. -/
theorem crcShift_toNat_of_even {r : Word} (h : r.toNat % 2 = 0) : (crcShift r).toNat = r.toNat / 2 := by
  have hbit : ¬ r.getLsbD 0 = true := by rw [getLsbD_zero_iff]; omega
  rw [crcShift, if_neg hbit, BitVec.toNat_ushiftRight, Nat.shiftRight_eq_div_pow, pow_one]

/-- A turn that folds in 0xA001 sets bit 15, so a small result shows that the register was even. -/
theorem even_of_crcShift_lt {r : Word} (h : (crcShift r).toNat < 2 ^ 15) : r.toNat % 2 = 0 := by
  by_contra hodd
  have hbit : r.getLsbD 0 = true := (getLsbD_zero_iff r).mpr (by omega)
  have htop : (crcShift r).msb = true := by
    rw [crcShift, if_pos hbit, BitVec.msb_xor, BitVec.msb_ushiftRight]; rfl
  have := BitVec.toNat_ge_of_msb_true htop
  omega

/-- `k` turns on a multiple of `2^k` only shift. -/
theorem crcShift_iterate_toNat {r : Word} (k : Nat) (h : 2 ^ k ∣ r.toNat) :
    (crcShift^[k] r).toNat = r.toNat / 2 ^ k := by
  induction k with
  | zero => simp
  | succ k ih =>
    rw [pow_succ] at h
    have hprev := ih (dvd_of_mul_right_dvd h)
    have heven : (crcShift^[k] r).toNat % 2 = 0 := by
      rw [hprev]
      exact Nat.mod_eq_zero_of_dvd (Nat.dvd_div_of_mul_dvd h)
    rw [Function.iterate_succ_apply', crcShift_toNat_of_even heven, hprev, Nat.div_div_eq_div_mul, pow_succ]

/-- Conversely a result whose upper `k` bits are 0 shows that no turn folded in the constant. -/
theorem pow_dvd_of_crcShift_iterate_lt {r : Word} (k : Nat) (hk : k ≤ 16)
    (h : (crcShift^[k] r).toNat < 2 ^ (16 - k)) : 2 ^ k ∣ r.toNat := by
  induction k with
  | zero => simp
  | succ k ih =>
    rw [Function.iterate_succ_apply'] at h
    have hpow : 2 ^ (16 - k) = 2 * 2 ^ (16 - (k + 1)) := by rw [← pow_succ']; congr 1; omega
    have heven : (crcShift^[k] r).toNat % 2 = 0 :=
      even_of_crcShift_lt (h.trans_le (Nat.pow_le_pow_right (by decide) (by omega)))
    rw [crcShift_toNat_of_even heven] at h
    have hdvd : 2 ^ k ∣ r.toNat := ih (by omega) (by omega)
    rw [crcShift_iterate_toNat k hdvd] at heven
    rw [pow_succ]
    exact Nat.mul_dvd_of_dvd_div hdvd (Nat.dvd_of_mod_eq_zero heven)

/-! ### A byte that leaves a zero high byte -/

theorem lo_xor_setWidth (c : Word) (b : Byte) : lo (c ^^^ b.setWidth 16) = lo c ^^^ b := by
  ext k hk
  simp [lo, hk, show k < 16 by omega]

theorem hi_xor_setWidth (c : Word) (b : Byte) : hi (c ^^^ b.setWidth 16) = hi c := by
  ext k hk
  simp [hi]

theorem dvd_toNat_iff_lo_eq_zero (c : Word) : 2 ^ 8 ∣ c.toNat ↔ lo c = 0#8 := by
  rw [← BitVec.toNat_inj, lo_toNat, Nat.dvd_iff_mod_eq_zero]; rfl

theorem hi_eq_zero_iff_lt (c : Word) : hi c = 0#8 ↔ c.toNat < 2 ^ 8 := by
  rw [← BitVec.toNat_inj, hi_toNat]
  exact Nat.div_eq_zero_iff_lt (by decide)

theorem lo_setWidth (b : Byte) : lo (b.setWidth 16) = b := by
  simpa [lo] using lo_xor_setWidth 0#16 b

theorem hi_setWidth (b : Byte) : hi (b.setWidth 16) = 0#8 := by
  simpa [hi] using hi_xor_setWidth 0#16 b

/-- R103 (b): absorbing the low byte only shifts, so the high byte is left. -/
theorem crcUpd_lo (c : Word) : crcUpd c (lo c) = (hi c).setWidth 16 := by
  have hlo : lo (c ^^^ (lo c).setWidth 16) = 0#8 := by rw [lo_xor_setWidth, BitVec.xor_self]
  have hshift : (crcUpd c (lo c)).toNat = (c ^^^ (lo c).setWidth 16).toNat / 256 :=
    crcShift_iterate_toNat 8 ((dvd_toNat_iff_lo_eq_zero _).mpr hlo)
  apply BitVec.eq_of_toNat_eq
  rw [hshift, ← hi_toNat, hi_xor_setWidth, BitVec.toNat_setWidth_of_le (by decide)]

/-- Only the low byte leaves a zero high byte (R111). -/
theorem hi_crcUpd_eq_zero_iff (c : Word) (b : Byte) : hi (crcUpd c b) = 0#8 ↔ b = lo c := by
  constructor
  · intro h
    have hlow : 2 ^ 8 ∣ (c ^^^ b.setWidth 16).toNat :=
      pow_dvd_of_crcShift_iterate_lt 8 (by decide) ((hi_eq_zero_iff_lt _).mp h)
    rw [dvd_toNat_iff_lo_eq_zero, lo_xor_setWidth, BitVec.xor_eq_zero_iff] at hlow
    exact hlow.symm
  · rintro rfl
    rw [crcUpd_lo, hi_setWidth]

/-- Two bytes take a register to 0 exactly when they are its low and its high byte (R111). -/
theorem crcUpd_crcUpd_eq_zero_iff (c : Word) (x y : Byte) :
    crcUpd (crcUpd c x) y = 0x0000#16 ↔ x = lo c ∧ y = hi c := by
  constructor
  · intro h
    have hy : y = lo (crcUpd c x) := (hi_crcUpd_eq_zero_iff _ _).mp (by rw [h]; rfl)
    have hzero : hi (crcUpd c x) = 0#8 := by
      rw [hy, crcUpd_lo] at h
      rw [← lo_setWidth (hi (crcUpd c x)), h]; rfl
    have hx : x = lo c := (hi_crcUpd_eq_zero_iff _ _).mp hzero
    exact ⟨hx, by rw [hy, hx, crcUpd_lo, lo_setWidth]⟩
  · rintro ⟨rfl, rfl⟩
    have h := crcUpd_lo ((hi c).setWidth 16)
    rw [lo_setWidth, hi_setWidth] at h
    rw [crcUpd_lo, h]
    rfl

/-! ### The frame check -/

/-- A frame of 2 bytes or more is its body and its two CRC bytes. -/
theorem exists_eq_append_pair {f : List Byte} (h : 2 ≤ f.length) : ∃ m x y, f = m ++ [x, y] := by
  have hdrop : (f.drop (f.length - 2)).length = 2 := by rw [List.length_drop]; omega
  obtain ⟨x, y, hxy⟩ := List.length_eq_two.mp hdrop
  exact ⟨f.take (f.length - 2), x, y, by rw [← hxy, List.take_append_drop]⟩

theorem crcOk_append_pair_iff {m : List Byte} (h : 2 ≤ m.length) (x y : Byte) :
    crcOk (m ++ [x, y]) = true ↔ x = lo (crc16 m) ∧ y = hi (crc16 m) := by
  constructor
  · intro hok
    have hframe := encodeFrame_frameBody hok
    have hbody : frameBody (m ++ [x, y]) = m := by simp [frameBody]
    rw [hbody, encodeFrame, List.append_cancel_left_eq] at hframe
    simpa [eq_comm] using hframe
  · rintro ⟨rfl, rfl⟩
    exact crcOk_encodeFrame h

/-- R111: the frame check is a zero CRC over the whole frame. -/
theorem crcOk_iff_crc16_eq_zero {f : List Byte} (h : 4 ≤ f.length) : crcOk f = true ↔ crc16 f = 0x0000#16 := by
  obtain ⟨m, x, y, rfl⟩ := exists_eq_append_pair (f := f) (by omega)
  have hm : 2 ≤ m.length := by simp at h; omega
  rw [crcOk_append_pair_iff hm, crc16_append, List.foldl_cons, List.foldl_cons, List.foldl_nil,
    crcUpd_crcUpd_eq_zero_iff]

/-- Settles O21: the frame check is a zero CRC, and `rx_crc` is the CRC of the held frame (R25 c). -/
theorem frameCheckIsAZeroRegister : Obligations.FrameCheckIsAZeroRegister := by
  refine ⟨fun f hf => crcOk_iff_crc16_eq_zero hf, fun s hinv hheld hlen => ?_⟩
  rw [hinv.frameCrc hheld]
  exact crcOk_iff_crc16_eq_zero (by rwa [Machine.State.rxFrame_length])

/-- Settles O17: `crc16` is a `foldl`, which absorbs a last byte last. -/
theorem crcIsALeftFold : Obligations.CrcIsALeftFold := by
  refine ⟨crc16_nil, crc16_concat, ?_⟩
  rintro body c rfl
  rfl

end Sys2Proof
end

section
/-! PROOFS. spec/40_crc.md: the generator's four operations (R105 to R108). -/

namespace Sys2Proof.Machine

/-! ### The operations -/

@[simp] theorem State.crcReg_setCrc (u : CrcUnit) (c : Word) (s : State) : (s.setCrc u c).crcReg u = c := by
  cases u <;> rfl

/-- Of two loads of one register the second stays. -/
@[simp] theorem State.setCrc_setCrc (u : CrcUnit) (c d : Word) (s : State) :
    (s.setCrc u c).setCrc u d = s.setCrc u d := by
  cases u <;> rfl

theorem decode_crcControl (u : CrcUnit) (crcInit crcEn : Bool) (din : Byte) :
    decode (.crcControl u crcInit crcEn din) = .ok (decodeControl u crcInit crcEn din) := rfl

/-- R108: CRC.INIT_UPDATE is CRC.UPDATE after CRC.INIT. -/
theorem exec_crcInitUpdate_eq_update (u : CrcUnit) (b : Byte) (s : State) :
    exec (.crcInitUpdate u b) s = exec (.crcUpdate u b) (s.setCrc u crcStart) := by
  rw [exec_crcInitUpdate, exec_crcUpdate, State.crcReg_setCrc, State.setCrc_setCrc]

/-- The rules' examples from the initial value (R106, R108). -/
theorem crcUpd_crcStart_examples :
    crcUpd crcStart 0x00#8 = 0x40BF#16 ∧ crcUpd crcStart 0x01#8 = 0x807E#16 ∧
      crcUpd crcStart 0xFF#8 = 0x00FF#16 := by
  decide

/-- Settles O13: the meaning of CRC.HOLD writes the register's own value back. -/
theorem crcHoldKeepsTheRegister : Obligations.CrcHoldKeepsTheRegister :=
  ⟨fun u din => decode_crcControl u false false din, exec_crcHold, fun u s h => ⟨s, exec_crcHold u s, h⟩⟩

/-- Settles O14: the register is written with its own value's update, and R103 (b) is the corner case of `lo(c)`. -/
theorem crcUpdateAbsorbsAByte : Obligations.CrcUpdateAbsorbsAByte := by
  obtain ⟨hzero, hone, -⟩ := crcUpd_crcStart_examples
  exact ⟨fun u din => decode_crcControl u false true din,
    fun b s => ⟨exec_crcUpdate .rx b s, exec_crcUpdate .tx b s⟩, hzero, by decide, crcUpd_lo, hone⟩

/-- Settles O15: the register's old value and `crc_din` reach neither the decoded operation nor its meaning. -/
theorem crcInitLoadsTheInitialValue : Obligations.CrcInitLoadsTheInitialValue :=
  ⟨fun u din => decode_crcControl u true false din, fun s => ⟨exec_crcInit .rx s, exec_crcInit .tx s⟩⟩

/-- Settles O16: CRC.INIT leaves the initial value in the register that CRC.UPDATE then reads and writes. -/
theorem crcInitUpdateStartsAFreshCrc : Obligations.CrcInitUpdateStartsAFreshCrc := by
  obtain ⟨hzero, hone, hff⟩ := crcUpd_crcStart_examples
  refine ⟨fun u din => decode_crcControl u true true din,
    fun b s => ⟨exec_crcInitUpdate .rx b s, exec_crcInitUpdate .tx b s⟩, fun u b s t h => ?_, hff, hzero, hone⟩
  obtain rfl : s.setCrc u crcStart = t := Host.Outcome.next.inj h
  exact exec_crcInitUpdate_eq_update u b s

end Sys2Proof.Machine
end

section
/-! PROOFS. spec/40_crc.md R109: the schedule of the two CRC generators. -/

namespace Sys2Proof.Machine

/-! ### The receive side -/

theorem startState_rxCrc (b : Byte) (s : State) : (startState b s).rxCrc = crcUpd crcStart b := rfl

theorem appendState_rxCrc (b : Byte) (s : State) :
    (appendState b s).rxCrc = if s.rxLen < Config.rxCap then crcUpd s.rxCrc b else s.rxCrc := by
  unfold appendState
  split <;> rfl

/-- The branches absorb the byte that starts a frame and each byte that is stored, and hold `rx_crc` otherwise. -/
theorem branchState_rxCrc (t35 : Nat) (i : Inputs) (s : State) :
    (branchState t35 i s).rxCrc =
      if s.fsm = .idle ∧ i.rxValid = true ∧ s.stopPending = false then crcUpd crcStart i.rxData
      else if s.fsm = .receiving ∧ i.rxValid = true ∧ i.stop = false ∧ s.rxLen < Config.rxCap then
        crcUpd s.rxCrc i.rxData
      else s.rxCrc := by
  unfold branchState
  cases hf : s.fsm with
  | idle => cases s.stopPending <;> cases i.rxValid <;> simp [startState_rxCrc]
  | receiving => cases i.stop <;> cases i.rxValid <;> simp [apply_ite State.rxCrc, appendState_rxCrc]
  | validating => cases validate s <;> rfl
  | dispatching =>
    cases i.respValid
    · rfl
    · cases encodeResponse s.request i.resp <;> rfl
  | responding => simp [apply_ite State.rxCrc]
  | stopped => rfl

/-! ### The transmit side -/

theorem appendState_txCrc (b : Byte) (s : State) : (appendState b s).txCrc = s.txCrc := by
  unfold appendState
  split <;> rfl

theorem appendState_fsm (b : Byte) (s : State) : (appendState b s).fsm = s.fsm := by
  unfold appendState
  split <;> rfl

theorem State.idleNext_ne_responding (s : State) : s.idleNext ≠ .responding := by
  unfold State.idleNext
  split <;> exact Fsm.noConfusion

/-- A branch that does not end in RESPONDING, and did not start there, holds `tx_crc`; one that enters it has loaded a
body. -/
theorem branchState_txCrc_of_not_responding (t35 : Nat) (i : Inputs) {s : State} (h : s.fsm ≠ .responding) :
    (branchState t35 i s).txCrc = if (branchState t35 i s).fsm = .responding then crcStart else s.txCrc := by
  unfold branchState
  cases hf : s.fsm with
  | responding => exact absurd hf h
  | idle => cases s.stopPending <;> cases i.rxValid <;> simp [hf, startState]
  | receiving =>
    dsimp only
    split
    · rfl
    · split
      · split <;> simp [appendState_txCrc, appendState_fsm, hf]
      · split <;> simp
  | validating => cases validate s <;> simp [State.idleNext_ne_responding]
  | dispatching =>
    cases i.respValid
    · simp [hf]
    · cases encodeResponse s.request i.resp <;> simp [State.idleNext_ne_responding]
  | stopped => simp [hf]

/-- In RESPONDING each body byte transferred is absorbed. -/
theorem branchState_txCrc_of_responding (t35 : Nat) (i : Inputs) {s : State} (h : s.fsm = .responding) :
    (branchState t35 i s).txCrc =
      if i.txReady = true ∧ s.txIdx < s.txLen then crcUpd s.txCrc (s.txBodyByte s.txIdx) else s.txCrc := by
  simp only [branchState, h]
  cases i.txReady <;> simp [apply_ite State.txCrc]

/-- The branches restart `tx_crc` with a loaded body, absorb each body byte transferred, and hold it otherwise. -/
theorem branchState_txCrc (t35 : Nat) (i : Inputs) (s : State) :
    (branchState t35 i s).txCrc =
      if s.fsm ≠ .responding ∧ (branchState t35 i s).fsm = .responding then crcStart
      else if s.fsm = .responding ∧ i.txReady = true ∧ s.txIdx < s.txLen then
        crcUpd s.txCrc (s.txBodyByte s.txIdx)
      else s.txCrc := by
  by_cases hf : s.fsm = .responding
  · rw [branchState_txCrc_of_responding t35 i hf]
    simp [hf]
  · rw [branchState_txCrc_of_not_responding t35 i hf]
    simp [hf]

/-! ### The schedule -/

/-- Settles O3: a reset cycle loads the initial value into both registers, and every other cycle does to them what its
branch does. -/
theorem generatorsFollowTheirSchedule : Obligations.GeneratorsFollowTheirSchedule := by
  intro s t h
  rw [step_next h]
  by_cases hrst : s.input.rst = true
  · rw [nextState, if_pos hrst, if_pos hrst, if_pos hrst]
    exact ⟨rfl, rfl⟩
  · rw [nextState_of_running _ (Bool.eq_false_iff.mpr hrst), if_neg hrst, if_neg hrst]
    constructor
    · rw [branchState_rxCrc]
      exact if_congr (by simp) rfl rfl
    · exact branchState_txCrc _ _ _

end Sys2Proof.Machine
end

section
/-! PROOFS. spec/41_receive.md: the two receive actions, `start_frame` (R121) and `append_byte` (R122), as steps. -/

namespace Sys2Proof.Machine

/-! ### The receive actions -/

/-- The byte a receive action writes is read back, and every other byte of the store stays (R52). -/
theorem State.rxByte_of_rxBuf_set (s t : State) {k : Nat} {b : Byte} (hbuf : t.rxBuf = Memory.set s.rxBuf k b)
    (hepoch : t.epoch = s.epoch) (a : Nat) : t.rxByte a = if a = k then b else s.rxByte a := by
  rw [State.rxByte, hbuf, hepoch, Memory.get?_set]
  split <;> rfl

theorem appendState_of_room {s : State} (b : Byte) (h : s.rxLen < Config.rxCap) :
    appendState b s =
      { s.setCrc .rx (crcUpd s.rxCrc b) with rxBuf := Memory.set s.rxBuf s.rxLen b, rxLen := s.rxLen + 1 } :=
  if_pos h

theorem appendState_of_full {s : State} (b : Byte) (h : Config.rxCap ≤ s.rxLen) :
    appendState b s = { s with rxOvf := true } :=
  if_neg (Nat.not_lt.mpr h)

theorem startState_rxByte (b : Byte) (s : State) (a : Nat) :
    (startState b s).rxByte a = if a = 0 then b else s.rxByte a :=
  State.rxByte_of_rxBuf_set s (startState b s) rfl rfl a

theorem appendState_rxByte_of_room {s : State} (b : Byte) (h : s.rxLen < Config.rxCap) (a : Nat) :
    (appendState b s).rxByte a = if a = s.rxLen then b else s.rxByte a :=
  have hstate := appendState_of_room b h
  State.rxByte_of_rxBuf_set s (appendState b s) (by rw [hstate]) (by rw [hstate]; rfl) a

/-- An overrun has no early boundary (R124). -/
theorem earlyEnd_of_overrun {s : State} (h : s.rxOvf = true) : earlyEnd s = false := by
  simp [earlyEnd, h]

/-! ### The cycles that take a byte -/

/-- In IDLE with no stop latched, a byte starts a frame. -/
theorem branchState_of_first_byte (t35 : Nat) {i : Inputs} {s : State} (hidle : s.fsm = .idle)
    (hvalid : i.rxValid = true) (hstop : s.stopPending = false) :
    branchState t35 i s = startState i.rxData s := by
  simp [branchState, hidle, hvalid, hstop]

/-- In RECEIVING with no stop requested, a byte is appended; then at most `fsm` is written, and not on an overrun. -/
theorem branchState_of_further_byte (t35 : Nat) {i : Inputs} {s : State} (hreceiving : s.fsm = .receiving)
    (hvalid : i.rxValid = true) (hstop : i.stop = false) :
    ∃ f, branchState t35 i s = { appendState i.rxData s with fsm := f } ∧
      ((appendState i.rxData s).rxOvf = true → f = .receiving) := by
  simp only [branchState, hreceiving, hvalid, hstop, Bool.false_eq_true, if_false, if_true]
  by_cases hend : earlyEnd (appendState i.rxData s) = true
  · refine ⟨.validating, if_pos hend, fun hovf => ?_⟩
    rw [earlyEnd_of_overrun hovf] at hend
    cases hend
  · exact ⟨(appendState i.rxData s).fsm, if_neg hend, fun _ => (appendState_fsm _ _).trans hreceiving⟩

theorem step_of_first_byte {s : State} (hidle : s.fsm = .idle) (hrst : s.input.rst = false)
    (hvalid : s.input.rxValid = true) (hpending : s.stopPending = false) (hstop : s.input.stop = false) :
    step s = .next (startState s.input.rxData (s.popInput.beginCycle Config.t35Cycles s.input)) := by
  rw [step_eq fun _ => State.readsInRange_of_receive (.inl hidle), nextState_of_running _ hrst,
    branchState_of_first_byte _ (by simpa using hidle) hvalid (by simp [hpending, hstop])]

theorem step_of_further_byte {s : State} (hreceiving : s.fsm = .receiving) (hrst : s.input.rst = false)
    (hvalid : s.input.rxValid = true) (hstop : s.input.stop = false) :
    ∃ f, step s = .next
        { appendState s.input.rxData (s.popInput.beginCycle Config.t35Cycles s.input) with fsm := f } ∧
      ((appendState s.input.rxData (s.popInput.beginCycle Config.t35Cycles s.input)).rxOvf = true →
        f = .receiving) := by
  obtain ⟨f, hbranch, hovf⟩ := branchState_of_further_byte Config.t35Cycles
    (s := s.popInput.beginCycle Config.t35Cycles s.input) (by simpa using hreceiving) hvalid hstop
  refine ⟨f, ?_, hovf⟩
  rw [step_eq fun _ => State.readsInRange_of_receive (.inr hreceiving), nextState_of_running _ hrst, hbranch]

/-- Settles O42: no branch condition looks at the byte, so every byte leads to `startState`, whose one write to the
store is at index 0. -/
theorem anyByteStartsAFrame : Obligations.AnyByteStartsAFrame := by
  intro s hidle hrst hvalid hpending hstop
  have hbyte := startState_rxByte s.input.rxData (s.popInput.beginCycle Config.t35Cycles s.input)
  have hlatch : (s.popInput.beginCycle Config.t35Cycles s.input).stopPending = false := by
    rw [State.beginCycle_stopPending, State.popInput_stopPending, hpending, hstop, Bool.or_false]
  exact ⟨_, step_of_first_byte hidle hrst hvalid hpending hstop, rfl, (hbyte 0).trans (if_pos rfl), rfl, rfl, rfl,
    fun a ha => (hbyte a).trans (if_neg ha), rfl, rfl, rfl, rfl, rfl, rfl, rfl, hlatch, rfl⟩

/-- Settles O43: by whether the store has room for the byte; with room its one write is at `rx_len`, and without it
only the overrun flag is written. -/
theorem furtherBytesAreAppended : Obligations.FurtherBytesAreAppended := by
  intro s hreceiving hrst hvalid hstop
  have hlatch : (s.popInput.beginCycle Config.t35Cycles s.input).stopPending = s.stopPending := by
    rw [State.beginCycle_stopPending, State.popInput_stopPending, hstop, Bool.or_false]
  obtain ⟨f, hstep, hovf⟩ := step_of_further_byte hreceiving hrst hvalid hstop
  rcases Nat.lt_or_ge s.rxLen 256 with hroom | hfull
  · have hbyte := appendState_rxByte_of_room (s := s.popInput.beginCycle Config.t35Cycles s.input) s.input.rxData hroom
    rw [appendState_of_room (s := s.popInput.beginCycle _ _) _ hroom] at hstep hovf hbyte
    exact ⟨_, hstep, fun _ => ⟨(hbyte _).trans (if_pos rfl), rfl, rfl, rfl⟩,
      fun hfull => absurd hroom (Nat.not_lt.mpr hfull), hovf, fun a ha => (hbyte a).trans (if_neg ha),
      rfl, rfl, rfl, rfl, rfl, rfl, rfl, hlatch, rfl⟩
  · rw [appendState_of_full (s := s.popInput.beginCycle _ _) _ hfull] at hstep hovf
    exact ⟨_, hstep, fun hroom => absurd hroom (Nat.not_lt.mpr hfull), fun _ => ⟨rfl, rfl, rfl, rfl⟩, hovf,
      fun _ _ => rfl, rfl, rfl, rfl, rfl, rfl, rfl, rfl, hlatch, rfl⟩

end Sys2Proof.Machine
end

section
/-! PROOFS. spec/42_request_decode.md R162: a response carries the address byte of its request. -/

namespace Sys2Proof.Machine

/-! ### Entering RESPONDING -/

/-- R144: a frame passes the address filter in promiscuous mode, or where its address is the unit's. -/
theorem State.addressed_iff (s : State) (addr : Byte) :
    s.addressed addr = true ↔ s.cfgPromisc = true ∨ addr = s.cfgUnitId := by
  simp [State.addressed]

/-- The codec's own exception answers the held frame, which passed the address filter (R140, R145). -/
theorem validate_eq_respondException {s : State} {addr fc code : Byte}
    (h : validate s = .respondException addr fc code) :
    addr = byteAt s.rxFrame 0 ∧ fc = byteAt s.rxFrame 1 ∧ s.addressed (byteAt s.rxFrame 0) = true := by
  unfold validate at h
  split at h; · cases h
  split at h; · cases h
  split at h; · cases h
  split at h; · cases h
  rename_i haddr
  split at h
  · cases h
    exact ⟨rfl, rfl, by simpa using haddr⟩
  · split at h <;> cases h

/-- A branch enters RESPONDING from VALIDATING with the codec's own exception, or from DISPATCHING with the body of the
dispatcher's Response. -/
theorem branchState_enters_responding {t35 : Nat} {i : Inputs} {s : State} (hs : s.fsm ≠ .responding)
    (ht : (branchState t35 i s).fsm = .responding) :
    (s.fsm = .validating ∧ ∃ addr fc code, validate s = .respondException addr fc code ∧
      branchState t35 i s = ((s.noteByte i).emit .illFunc).loadTx (excBody addr fc 0x01#8)) ∨
    (s.fsm = .dispatching ∧ i.respValid = true ∧ ∃ body, encodeResponse s.request i.resp = some body ∧
      branchState t35 i s = (s.noteByte i).loadTx body) := by
  unfold branchState at ht ⊢
  cases hf : s.fsm with
  | idle => cases hp : s.stopPending <;> cases hv : i.rxValid <;> simp [hf, hp, hv, startState] at ht
  | receiving =>
    simp only [hf] at ht
    split at ht
    · cases ht
    · split at ht <;> split at ht <;> simp [appendState_fsm, hf] at ht
  | validating =>
    cases hv : validate s with
    | ignore r => simp [hf, hv, State.idleNext_ne_responding] at ht
    | respondException addr fc code => exact .inl ⟨rfl, addr, fc, code, rfl, rfl⟩
    | dispatch q => simp [hf, hv] at ht
  | dispatching =>
    cases hr : i.respValid with
    | false => simp [hf, hr] at ht
    | true =>
      cases he : encodeResponse s.request i.resp with
      | none => simp [hf, hr, he, State.idleNext_ne_responding] at ht
      | some body => exact .inr ⟨rfl, rfl, body, rfl, rfl⟩
  | responding => exact absurd hf hs
  | stopped => simp [hf] at ht

/-- Every response loaded for a Request starts with the Request's address (R171 to R179). -/
theorem byteAt_zero_of_encodeResponse {q : Request} {r : Response} {body : List Byte}
    (h : encodeResponse q r = some body) : byteAt body 0 = q.addr := by
  cases r <;> simp only [encodeResponse] at h <;> split at h <;> cases h <;> rfl

/-- A loaded body is read back from its first byte on. -/
theorem State.txBodyByte_zero_of_loadTx {body : List Byte} (h : 0 < body.length) (s : State) :
    (s.loadTx body).txBodyByte 0 = byteAt body 0 := by
  rw [State.txBodyByte_loadTx, if_pos h]

/-- A branch that enters RESPONDING, from DISPATCHING only with a Request that passed every check, loads a body whose
byte 0 is the held frame's, and that byte passed the address filter. -/
theorem branchState_response_address {t35 : Nat} {i : Inputs} {s : State} (hs : s.fsm ≠ .responding)
    (hvalid : s.fsm = .dispatching → validate s = .dispatch s.request)
    (ht : (branchState t35 i s).fsm = .responding) :
    (branchState t35 i s).txBodyByte 0 = byteAt s.rxFrame 0 ∧ s.addressed (byteAt s.rxFrame 0) = true := by
  rcases branchState_enters_responding hs ht with
    ⟨-, addr, fc, code, hv, hstate⟩ | ⟨hdispatching, -, body, hbody, hstate⟩
  · obtain ⟨haddr, -, hpassed⟩ := validate_eq_respondException hv
    refine ⟨?_, hpassed⟩
    rw [hstate, State.txBodyByte_zero_of_loadTx (by simp), ← haddr]
    rfl
  · obtain ⟨-, -, -, -, hpassed, -, -⟩ := validate_eq_dispatch (hvalid hdispatching)
    obtain ⟨hthree, -⟩ := encodeResponse_length hbody
    refine ⟨?_, hpassed⟩
    rw [hstate, State.txBodyByte_zero_of_loadTx (by omega), byteAt_zero_of_encodeResponse hbody]
    rfl

/-- Settles O53: the step is no reset, so its branch loaded the response; the address it copies passed the filter, in
VALIDATING by this cycle's checks and in DISPATCHING by the invariant. -/
theorem responsesCarryTheRequestAddress : Obligations.ResponsesCarryTheRequestAddress := by
  intro s t hinv h hs ht
  have hrst : s.input.rst = false := by
    by_contra hreset
    rw [step_next h, nextState_fsm_of_reset _ (by simpa using hreset)] at ht
    cases ht
  rw [step_next h, nextState_of_running _ hrst] at ht ⊢
  obtain ⟨hbyte, hpassed⟩ := branchState_response_address
    (s := s.popInput.beginCycle Config.t35Cycles s.input) hs hinv.dispatchedValid ht
  refine ⟨hbyte, fun hpromisc => hbyte.trans ?_⟩
  exact ((State.addressed_iff _ _).mp hpassed).resolve_left (by simpa using hpromisc)

end Sys2Proof.Machine
end

section
/-! PROOFS. spec/42_request_decode.md R150, R185: a Request's encoding, field by field, and its decoding. -/

namespace Sys2Proof

/-- What R160 asks of a Request: a supported code; no byte count and no payload where the format has none; and else a
byte count that is the payload's length, in a frame that fits the receive store (R158). -/
structure Request.Fits (q : Request) : Prop where
  supported : supportedFc q.fc = true
  unused : isMultiple q.fc = false → q.bc = 0 ∧ q.data = []
  payload : isMultiple q.fc = true → q.bc.toNat = q.data.length ∧ q.data.length ≤ 247

theorem encodeRequest_req8 {q : Request} (h : isMultiple q.fc = false) :
    encodeRequest q = encodeFrame (requestBody q.addr q.fc q.a q.b) := by
  simp [encodeRequest, h]

theorem encodeRequest_reqm {q : Request} (h : isMultiple q.fc = true) :
    encodeRequest q = encodeFrame (requestBodyM q.addr q.fc q.a q.b q.bc q.data) := by
  simp [encodeRequest, h]

/-- Both formats start with the six bytes of a REQ8 body (R75). -/
theorem encodeRequest_eq_append (q : Request) :
    ∃ rest, encodeRequest q = requestBody q.addr q.fc q.a q.b ++ rest := by
  cases h : isMultiple q.fc with
  | false => exact ⟨_, encodeRequest_req8 h⟩
  | true => exact ⟨_, (encodeRequest_reqm h).trans (List.append_assoc _ _ _)⟩

theorem encodeRequest_length_req8 {q : Request} (h : isMultiple q.fc = false) : (encodeRequest q).length = 8 := by
  rw [encodeRequest_req8 h, encodeFrame_length, requestBody_length]

theorem encodeRequest_length_reqm {q : Request} (h : isMultiple q.fc = true) :
    (encodeRequest q).length = 9 + q.data.length := by
  rw [encodeRequest_reqm h, encodeFrame_length, requestBodyM_length]
  omega

theorem crcOk_encodeRequest (q : Request) : crcOk (encodeRequest q) = true := by
  cases h : isMultiple q.fc with
  | false =>
    rw [encodeRequest_req8 h]
    exact crcOk_encodeFrame (by simp)
  | true =>
    rw [encodeRequest_reqm h]
    exact crcOk_encodeFrame (by simp; omega)

theorem byteAt_encodeRequest_addr (q : Request) : byteAt (encodeRequest q) 0 = q.addr := by
  obtain ⟨rest, hrest⟩ := encodeRequest_eq_append q
  rw [hrest]
  rfl

theorem byteAt_encodeRequest_fc (q : Request) : byteAt (encodeRequest q) 1 = q.fc := by
  obtain ⟨rest, hrest⟩ := encodeRequest_eq_append q
  rw [hrest]
  rfl

/-- Byte 6 of a REQM frame is its byte count, and the payload follows it (R75). -/
theorem encodeRequest_payload {q : Request} (h : isMultiple q.fc = true) :
    byteAt (encodeRequest q) 6 = q.bc ∧ ((encodeRequest q).drop 7).take q.data.length = q.data := by
  rw [encodeRequest_reqm h]
  exact ⟨rfl, List.take_left⟩

theorem Request.Fits.isReq8_fc {q : Request} (hq : q.Fits) : isReq8 q.fc = !isMultiple q.fc := by
  simp [isReq8, hq.supported]

/-- An encoded request has the length its function code and byte count imply (R146). -/
theorem lengthOk_encodeRequest {q : Request} (hq : q.Fits) : lengthOk (encodeRequest q) = true := by
  rw [lengthOk, byteAt_encodeRequest_fc, hq.isReq8_fc]
  cases h : isMultiple q.fc with
  | false => simp [encodeRequest_length_req8 h]
  | true =>
    obtain ⟨hbc, -⟩ := encodeRequest_payload h
    obtain ⟨hlen, -⟩ := hq.payload h
    simp [encodeRequest_length_reqm h, hbc, hlen]

/-- Decoding reads back every field of an encoded Request (R150, R185). -/
theorem decodeRequest_encodeRequest {q : Request} (hq : q.Fits) : decodeRequest (encodeRequest q) = q := by
  obtain ⟨rest, hrest⟩ := encodeRequest_eq_append q
  obtain ⟨h2, h3, h4, h5⟩ := byteAt_requestBody_append q.addr q.fc q.a q.b rest
  rw [← hrest] at h2 h3 h4 h5
  rw [decodeRequest, byteAt_encodeRequest_addr, byteAt_encodeRequest_fc, h2, h3, h4, h5, be16_hi_lo, be16_hi_lo]
  cases h : isMultiple q.fc with
  | false =>
    obtain ⟨hbc, hdata⟩ := hq.unused h
    simp [← hbc, ← hdata]
  | true =>
    obtain ⟨hbc, hdata⟩ := encodeRequest_payload h
    obtain ⟨hlen, -⟩ := hq.payload h
    simp [hbc, hlen, hdata]

end Sys2Proof
end

section
/-! PROOFS. spec/42_request_decode.md R160: a request delivered byte by byte reaches VALIDATING as itself. -/

namespace Sys2Proof.Machine

/-! ### Runs -/

/-- One more step of a run of any machine. -/
theorem machineRun_succ {M : Host.Core} {n : Nat} {s t : M.State} :
    M.run (n + 1) s = .next t ↔ ∃ u, M.step s = .next u ∧ M.run n u = .next t := by
  cases hs : M.step s <;> simp [Host.Core.run, hs]

/-- The codec's run, by its steps. -/
theorem run_succ {n : Nat} {s t : State} :
    core.run (n + 1) s = .next t ↔ ∃ u, step s = .next u ∧ core.run n u = .next t :=
  machineRun_succ (M := core)

/-- Two runs, one after the other. -/
theorem run_add {m n : Nat} {s t u : State} (hm : core.run m s = .next t) (hn : core.run n t = .next u) :
    core.run (m + n) s = .next u := by
  induction m generalizing s with
  | zero =>
    cases hm
    rwa [Nat.zero_add]
  | succ m ih =>
    obtain ⟨v, hstep, hrun⟩ := run_succ.mp hm
    rw [Nat.succ_add]
    exact run_succ.mpr ⟨v, hstep, ih hrun⟩

/-! ### The cycles of a delivery -/

/-- A cycle of a delivery that brings a byte. -/
def Inputs.bringsByte (i : Inputs) : Prop := i.rst = false ∧ i.stop = false ∧ i.rxValid = true

/-- A cycle of the silence after a delivery. -/
def Inputs.isSilent (i : Inputs) : Prop := i.rst = false ∧ i.stop = false ∧ i.rxValid = false

/-- The codec in `t` has received the bytes `f` without an overrun, under the configuration it had in `s`, and `rest` is
the schedule of the cycles to come. -/
structure State.Received (s : State) (f : List Byte) (rest : List Inputs) (t : State) : Prop where
  rxFrame : t.rxFrame = f
  rxOvf : t.rxOvf = false
  inputs : t.inputs = rest
  cfgUnitId : t.cfgUnitId = s.cfgUnitId
  cfgPromisc : t.cfgPromisc = s.cfgPromisc

theorem State.input_of_inputs {s : State} {i : Inputs} {rest : List Inputs} (h : s.inputs = i :: rest) :
    s.input = i := by
  rw [State.input, h, List.headD_cons]

theorem State.Received.rxLen {s t : State} {f : List Byte} {rest : List Inputs} (h : s.Received f rest t) :
    t.rxLen = f.length := by
  rw [← h.rxFrame, State.rxFrame_length]

/-- The common updates of a cycle take its inputs off the schedule, and receive nothing. -/
theorem State.Received.beginCycle {s t : State} {f : List Byte} {i : Inputs} {rest : List Inputs}
    (h : s.Received f (i :: rest) t) (t35 : Nat) (j : Inputs) : s.Received f rest (t.popInput.beginCycle t35 j) :=
  ⟨h.rxFrame, h.rxOvf, congrArg List.tail h.inputs, h.cfgUnitId, h.cfgPromisc⟩

theorem State.Received.withFsm {s t : State} {f : List Byte} {rest : List Inputs} (h : s.Received f rest t)
    (p : Fsm) : s.Received f rest { t with fsm := p } :=
  ⟨h.rxFrame, h.rxOvf, h.inputs, h.cfgUnitId, h.cfgPromisc⟩

/-- With room in the store, `append_byte` receives one byte (R122). -/
theorem State.Received.append {s t : State} {f : List Byte} {rest : List Inputs} (h : s.Received f rest t) (b : Byte)
    (hroom : f.length < Config.rxCap) : s.Received (f ++ [b]) rest (appendState b t) := by
  have hstate := appendState_of_room b (s := t) (h.rxLen ▸ hroom)
  have hframe : (appendState b t).rxFrame = f ++ [b] := by
    rw [State.rxFrame_append t _ b (by rw [hstate]) (by rw [hstate]) (by rw [hstate]; rfl), h.rxFrame]
  rw [hstate] at hframe ⊢
  exact ⟨hframe, h.rxOvf, h.inputs, h.cfgUnitId, h.cfgPromisc⟩

/-! ### The early boundary -/

/-- R124's early boundary, on the frame: 8 bytes, of a request of that length, with a correct CRC. -/
def EndsEarly (f : List Byte) : Prop := f.length = 8 ∧ isReq8 (byteAt f 1) = true ∧ crcOk f = true

theorem fixedLen_eq_some_iff (fc : Byte) : fixedLen fc = some 8 ↔ isReq8 fc = true := by simp [fixedLen]

theorem earlyEnd_iff (s : State) : earlyEnd s = true ↔ s.rxOvf = false ∧ EndsEarly s.rxFrame := by
  simp only [earlyEnd, EndsEarly, Bool.and_eq_true, Bool.not_eq_true', decide_eq_true_eq, beq_iff_eq,
    fixedLen_eq_some_iff, State.rxFrame_length]
  constructor
  · rintro ⟨⟨⟨⟨hovf, htwo⟩, hfc⟩, hlen⟩, hcrc⟩
    exact ⟨hovf, hlen, by rwa [s.byteAt_rxFrame (by omega)], hcrc⟩
  · rintro ⟨hovf, hlen, hfc, hcrc⟩
    rw [s.byteAt_rxFrame (by omega)] at hfc
    exact ⟨⟨⟨⟨hovf, by omega⟩, hfc⟩, hlen⟩, hcrc⟩

theorem State.Received.earlyEnd_iff {s t : State} {f : List Byte} {rest : List Inputs} (h : s.Received f rest t) :
    earlyEnd t = true ↔ EndsEarly f := by
  simp only [Machine.earlyEnd_iff, h.rxOvf, h.rxFrame, true_and]

/-! ### One byte -/

/-- The first byte of a delivery starts the frame (R121). -/
theorem receive_first_byte {s : State} {i : Inputs} {rest : List Inputs} (hidle : s.fsm = .idle)
    (hpending : s.stopPending = false) (hin : s.inputs = i :: rest) (hi : i.bringsByte) :
    ∃ t, step s = .next t ∧ t.fsm = .receiving ∧ t.gapCnt = 0 ∧ s.Received [i.rxData] rest t := by
  obtain ⟨hrst, hstop, hvalid⟩ := hi
  obtain rfl := State.input_of_inputs hin
  refine ⟨_, step_of_first_byte hidle hrst hvalid hpending hstop, rfl, if_pos hvalid, ?_⟩
  exact { rxFrame := State.rxFrame_start _ _ _ rfl rfl, rxOvf := rfl, inputs := congrArg List.tail hin,
          cfgUnitId := rfl, cfgPromisc := rfl }

theorem appendState_gapCnt (b : Byte) (s : State) : (appendState b s).gapCnt = s.gapCnt := by
  unfold appendState
  split <;> rfl

/-- In RECEIVING a byte is appended, and the early boundary decides whether the frame ends with it (R202, R124). -/
theorem branchState_of_byte (t35 : Nat) {i : Inputs} {s : State} (hreceiving : s.fsm = .receiving)
    (hvalid : i.rxValid = true) (hstop : i.stop = false) :
    branchState t35 i s = { appendState i.rxData s with
      fsm := if earlyEnd (appendState i.rxData s) then .validating else .receiving } := by
  have hfsm : (appendState i.rxData s).fsm = .receiving := (appendState_fsm _ _).trans hreceiving
  simp only [branchState, hreceiving, hvalid, hstop, Bool.false_eq_true, if_false, if_true]
  split
  · rfl
  · rw [← hfsm]

/-- A further byte of a delivery lengthens the frame (R122); where the frame then ends early, the next cycle validates
it. -/
theorem receive_further_byte {s t : State} {f : List Byte} {i : Inputs} {rest : List Inputs}
    (hreceiving : t.fsm = .receiving) (ht : s.Received f (i :: rest) t) (hi : i.bringsByte) (hroom : f.length < 256) :
    ∃ u, step t = .next u ∧ s.Received (f ++ [i.rxData]) rest u ∧ u.gapCnt = 0 ∧
      (EndsEarly (f ++ [i.rxData]) → u.fsm = .validating) ∧
      (¬ EndsEarly (f ++ [i.rxData]) → u.fsm = .receiving) := by
  obtain ⟨hrst, hstop, hvalid⟩ := hi
  obtain rfl := State.input_of_inputs ht.inputs
  have happended := (ht.beginCycle Config.t35Cycles t.input).append t.input.rxData hroom
  have hgap : (appendState t.input.rxData (t.popInput.beginCycle Config.t35Cycles t.input)).gapCnt = 0 :=
    (appendState_gapCnt _ _).trans (if_pos hvalid)
  refine ⟨_, step_eq fun _ => State.readsInRange_of_receive (.inr hreceiving), ?_⟩
  rw [nextState_of_running _ hrst, branchState_of_byte _ (by simpa using hreceiving) hvalid hstop]
  exact ⟨happended.withFsm _, hgap, fun h => if_pos (happended.earlyEnd_iff.mpr h),
    fun h => if_neg (mt happended.earlyEnd_iff.mp h)⟩

/-! ### Many bytes -/

/-- Bytes none of which ends the frame early are all received. -/
theorem run_further_bytes {s t : State} {f : List Byte} {bytes rest : List Inputs} (hreceiving : t.fsm = .receiving)
    (hgap : t.gapCnt = 0) (ht : s.Received f (bytes ++ rest) t) (hbytes : ∀ i ∈ bytes, i.bringsByte)
    (hroom : f.length + bytes.length ≤ 256)
    (hend : ∀ g, g <+: f ++ bytes.map Inputs.rxData → ¬ EndsEarly g) :
    ∃ u, core.run bytes.length t = .next u ∧ u.fsm = .receiving ∧ u.gapCnt = 0 ∧
      s.Received (f ++ bytes.map Inputs.rxData) rest u := by
  induction bytes generalizing t f with
  | nil => exact ⟨t, rfl, hreceiving, hgap, by simpa using ht⟩
  | cons i bytes ih =>
    rw [List.length_cons] at hroom
    have hsplit : f ++ (i :: bytes).map Inputs.rxData = (f ++ [i.rxData]) ++ bytes.map Inputs.rxData := by simp
    rw [hsplit] at hend ⊢
    obtain ⟨u, hstep, hu, hugap, -, hufsm⟩ :=
      receive_further_byte hreceiving ht (hbytes i List.mem_cons_self) (by omega)
    obtain ⟨v, hrun, hv⟩ := ih (hufsm (hend _ ⟨_, rfl⟩)) hugap hu
      (fun j hj => hbytes j (List.mem_cons_of_mem i hj)) (by simp; omega) hend
    exact ⟨v, run_succ.mpr ⟨u, hstep, hrun⟩, hv⟩

/-- A delivery to the codec in IDLE, no byte of which ends the frame early, is received whole. -/
theorem run_bytes {s : State} {bytes rest : List Inputs} (hidle : s.fsm = .idle) (hpending : s.stopPending = false)
    (hin : s.inputs = bytes ++ rest) (hbytes : ∀ i ∈ bytes, i.bringsByte) (hne : bytes ≠ [])
    (hroom : bytes.length ≤ 256) (hend : ∀ g, g <+: bytes.map Inputs.rxData → ¬ EndsEarly g) :
    ∃ t, core.run bytes.length s = .next t ∧ t.fsm = .receiving ∧ t.gapCnt = 0 ∧
      s.Received (bytes.map Inputs.rxData) rest t := by
  obtain ⟨i, bytes, rfl⟩ := List.exists_cons_of_ne_nil hne
  obtain ⟨t, hstep, ht, hgap, hreceived⟩ :=
    receive_first_byte hidle hpending hin (hbytes i List.mem_cons_self)
  rw [List.length_cons] at hroom
  obtain ⟨u, hrun, hu⟩ := run_further_bytes (f := [i.rxData]) ht hgap hreceived
    (fun j hj => hbytes j (List.mem_cons_of_mem i hj)) (by simp; omega) hend
  exact ⟨u, run_succ.mpr ⟨t, hstep, hrun⟩, hu⟩

/-! ### Silence -/

/-- In RECEIVING silence ends the frame where its count, which the common updates have raised, is `T35_CYCLES`. -/
theorem branchState_of_silence (t35 : Nat) {i : Inputs} {s : State} (hreceiving : s.fsm = .receiving)
    (hsilent : i.rxValid = false) (hstop : i.stop = false) :
    branchState t35 i s = { s with fsm := if s.gapCnt = t35 then .validating else .receiving } := by
  simp only [branchState, hreceiving, hsilent, hstop, gapEnd, beq_iff_eq, Bool.false_eq_true, if_false]
  split
  · rfl
  · rw [← hreceiving]

/-- A silent cycle in RECEIVING only counts, and the frame ends where the count reaches `T35_CYCLES` (R26, R124). -/
theorem receive_silence {s t : State} {f : List Byte} {i : Inputs} {rest : List Inputs}
    (hreceiving : t.fsm = .receiving) (ht : s.Received f (i :: rest) t) (hi : i.isSilent)
    (hgap : t.gapCnt < Config.t35Cycles) :
    ∃ u, step t = .next u ∧ s.Received f rest u ∧ u.gapCnt = t.gapCnt + 1 ∧
      u.fsm = if t.gapCnt + 1 = Config.t35Cycles then .validating else .receiving := by
  obtain ⟨hrst, hstop, hsilent⟩ := hi
  obtain rfl := State.input_of_inputs ht.inputs
  have hcount : (t.popInput.beginCycle Config.t35Cycles t.input).gapCnt = t.gapCnt + 1 := by
    simp only [State.beginCycle_gapCnt, hsilent, Bool.false_eq_true, if_false, State.popInput_gapCnt]
    omega
  refine ⟨_, step_eq fun _ => State.readsInRange_of_receive (.inr hreceiving), ?_⟩
  rw [nextState_of_running _ hrst, branchState_of_silence _ (by simpa using hreceiving) hsilent hstop]
  exact ⟨(ht.beginCycle _ _).withFsm _, hcount, by rw [hcount]⟩

/-- Silence up to `T35_CYCLES` ends the frame. -/
theorem run_silence {s t : State} {f : List Byte} {quiet rest : List Inputs} (hreceiving : t.fsm = .receiving)
    (ht : s.Received f (quiet ++ rest) t) (hquiet : ∀ i ∈ quiet, i.isSilent) (hne : quiet ≠ [])
    (hgap : t.gapCnt + quiet.length = Config.t35Cycles) :
    ∃ u, core.run quiet.length t = .next u ∧ u.fsm = .validating ∧ s.Received f rest u := by
  induction quiet generalizing t with
  | nil => exact absurd rfl hne
  | cons i quiet ih =>
    rw [List.length_cons] at hgap
    obtain ⟨u, hstep, hu, hugap, hufsm⟩ := receive_silence hreceiving ht (hquiet i List.mem_cons_self) (by omega)
    by_cases hlast : quiet = []
    · subst hlast
      exact ⟨u, run_succ.mpr ⟨u, hstep, rfl⟩, hufsm.trans (if_pos hgap), hu⟩
    · have hmore : 0 < quiet.length := List.length_pos_iff.mpr hlast
      obtain ⟨v, hrun, hv⟩ := ih (hufsm.trans (if_neg (by omega))) hu
        (fun j hj => hquiet j (List.mem_cons_of_mem i hj)) hlast (by omega)
      exact ⟨v, run_succ.mpr ⟨u, hstep, hrun⟩, hv⟩

/-! ### The frame of a request -/

/-- A delivered request that passes the address filter passes every other check, and decodes to itself. -/
theorem validate_of_received {q : Request} (hq : q.Fits) {s t : State} {rest : List Inputs}
    (haddr : s.cfgPromisc = true ∨ q.addr = s.cfgUnitId) (ht : s.Received (encodeRequest q) rest t) :
    validate t = .dispatch q := by
  have hpassed : t.addressed q.addr = true := by
    rwa [State.addressed_iff, ht.cfgPromisc, ht.cfgUnitId]
  have hfour : ¬ t.rxLen < 4 := by
    have hok := crcOk_encodeRequest q
    simp only [crcOk, Bool.and_eq_true, decide_eq_true_eq] at hok
    rw [ht.rxLen]
    omega
  have hrequest : t.request = q := by
    rw [State.request, ht.rxFrame, decodeRequest_encodeRequest hq]
  simp [validate, ht.rxOvf, hfour, ht.rxFrame, crcOk_encodeRequest, byteAt_encodeRequest_addr, hpassed,
    byteAt_encodeRequest_fc, hq.supported, lengthOk_encodeRequest hq, hrequest]

/-- The frame of a REQ8 request ends early, with its last byte. -/
theorem endsEarly_encodeRequest {q : Request} (hq : q.Fits) (h : isMultiple q.fc = false) :
    EndsEarly (encodeRequest q) :=
  ⟨encodeRequest_length_req8 h, by rw [byteAt_encodeRequest_fc, hq.isReq8_fc, h]; rfl, crcOk_encodeRequest q⟩

/-- Bytes beyond its own do not change what byte `k` of a frame is. -/
theorem byteAt_of_isPrefix {g f : List Byte} (h : g <+: f) {k : Nat} (hk : k < g.length) : byteAt g k = byteAt f k := by
  obtain ⟨rest, rfl⟩ := h
  rw [byteAt, byteAt, List.getD_append _ _ _ _ hk]

/-- A frame ends early at no byte where its function code has no fixed length. -/
theorem not_endsEarly_of_isPrefix {g f : List Byte} (h : g <+: f) (hf : isReq8 (byteAt f 1) = false) :
    ¬ EndsEarly g := by
  rintro ⟨hlen, hreq8, -⟩
  rw [byteAt_of_isPrefix h (by omega), hf] at hreq8
  cases hreq8

/-- FC 1 to 6: the first 7 bytes are received, and the 8th ends the frame. -/
theorem run_delivery_req8 {q : Request} (hq : q.Fits) (h : isMultiple q.fc = false) {s : State}
    {bytes rest : List Inputs} (hidle : s.fsm = .idle) (hpending : s.stopPending = false)
    (hdata : bytes.map Inputs.rxData = encodeRequest q) (hbytes : ∀ i ∈ bytes, i.bringsByte)
    (hin : s.inputs = bytes ++ rest) :
    ∃ t, core.run 8 s = .next t ∧ t.fsm = .validating ∧ s.Received (encodeRequest q) rest t := by
  have hlen : bytes.length = 8 := by
    rw [← encodeRequest_length_req8 h, ← hdata, List.length_map]
  obtain ⟨init, last, rfl⟩ : ∃ init last, bytes = init ++ [last] :=
    (List.eq_nil_or_concat' bytes).resolve_left (by rintro rfl; simp at hlen)
  have hinit : init.length = 7 := by simpa using hlen
  rw [List.append_assoc] at hin
  obtain ⟨t, hrun, ht, -, hreceived⟩ := run_bytes hidle hpending hin (fun i hi => hbytes i (by simp [hi]))
    (List.ne_nil_of_length_pos (by omega)) (by omega) (fun g hg hend => by
      have hshort := hg.length_le
      rw [List.length_map, hend.1] at hshort
      omega)
  obtain ⟨u, hstep, hu, -, hvalidating, -⟩ :=
    receive_further_byte ht hreceived (hbytes last (by simp)) (by simp [hinit])
  rw [List.map_append] at hdata
  rw [show init.map Inputs.rxData ++ [last.rxData] = encodeRequest q from hdata] at hu hvalidating
  refine ⟨u, ?_, hvalidating (endsEarly_encodeRequest hq h), hu⟩
  rw [hinit] at hrun
  exact run_add hrun ((run_succ (n := 0)).mpr ⟨u, hstep, rfl⟩)

/-- FC 15 and 16: no byte ends the frame, and the silence after the last one does. -/
theorem run_delivery_reqm {q : Request} (hq : q.Fits) (h : isMultiple q.fc = true) {s : State}
    {bytes quiet rest : List Inputs} (hidle : s.fsm = .idle) (hpending : s.stopPending = false)
    (hdata : bytes.map Inputs.rxData = encodeRequest q) (hsilence : quiet.length = Config.t35Cycles)
    (hbytes : ∀ i ∈ bytes, i.bringsByte) (hquiet : ∀ i ∈ quiet, i.isSilent)
    (hin : s.inputs = bytes ++ (quiet ++ rest)) :
    ∃ t, core.run (bytes.length + quiet.length) s = .next t ∧ t.fsm = .validating ∧
      s.Received (encodeRequest q) rest t := by
  have hlen : bytes.length = 9 + q.data.length := by
    rw [← encodeRequest_length_reqm h, ← hdata, List.length_map]
  obtain ⟨-, hfits⟩ := hq.payload h
  obtain ⟨t, hrun, ht, hgap, hreceived⟩ := run_bytes hidle hpending hin hbytes
    (List.ne_nil_of_length_pos (by omega)) (by omega) (fun g hg => not_endsEarly_of_isPrefix hg (by
      rw [hdata, byteAt_encodeRequest_fc, hq.isReq8_fc, h]
      rfl))
  rw [hdata] at hreceived
  have hsome : 0 < quiet.length := hsilence ▸ Nat.succ_pos _
  obtain ⟨u, hsilent, hu⟩ := run_silence ht hreceived hquiet (List.ne_nil_of_length_pos hsome)
    (by rw [hgap, hsilence, Nat.zero_add])
  exact ⟨u, run_add hrun hsilent, hu⟩

/-- Settles O58: the delivery of either format ends in VALIDATING with the whole frame held, where every check passes
and the frame decodes to its request. -/
theorem deliveredRequestsAreDispatched : Obligations.DeliveredRequestsAreDispatched := by
  intro q s bytes quiet rest hsupported hunused hpayload haddr hidle hpending hdata hsilence hbytes hquiet hin
  have hq : q.Fits := ⟨hsupported, hunused, hpayload⟩
  rw [List.append_assoc] at hin
  cases h : isMultiple q.fc with
  | false =>
    obtain ⟨t, hrun, ht, hreceived⟩ := run_delivery_req8 hq h hidle hpending hdata hbytes hin
    exact ⟨t, hrun, ht, validate_of_received hq haddr hreceived⟩
  | true =>
    obtain ⟨t, hrun, ht, hreceived⟩ := run_delivery_reqm hq h hidle hpending hdata hsilence hbytes hquiet hin
    exact ⟨t, hrun, ht, validate_of_received hq haddr hreceived⟩

end Sys2Proof.Machine
end

section
/-! PROOFS. spec/43_response_encode.md R180, R184: bits packed into bytes, and items read back from bytes. -/

namespace Sys2Proof

/-! ### One packed byte -/

theorem bitAt_eq_toNat (v : List Bool) (i : Nat) : bitAt v i = (v.getD i false).toNat := by
  unfold bitAt
  cases v.getD i false <;> rfl

/-- A list reads as 0 beyond its end, so an item that is 1 is an item of the list (R180). -/
theorem lt_length_of_getD_eq_true {v : List Bool} {i : Nat} (h : v.getD i false = true) : i < v.length := by
  by_contra hi
  rw [List.getD_eq_default _ _ (Nat.not_lt.mp hi)] at h
  cases h

/-- R180's term for one item: its power of 2 where the item is there and 1. -/
theorem bitAt_mul (v : List Bool) (i c : Nat) :
    bitAt v i * c = if i < v.length ∧ v.getD i false = true then c else 0 := by
  rw [bitAt_eq_toNat]
  cases h : v.getD i false with
  | false => simp
  | true => simp [lt_length_of_getD_eq_true h]

/-- The number with given bits is the sum of their powers of 2. -/
theorem ofBits_eq_sum (f : Nat → Bool) (n : Nat) :
    Nat.ofBits (fun j : Fin n => f j) = ∑ j ∈ Finset.range n, (f j).toNat * 2 ^ j := by
  induction n generalizing f with
  | zero => rfl
  | succ n ih =>
    have htail : Nat.ofBits ((fun j : Fin (n + 1) => f j) ∘ Fin.succ) =
        ∑ j ∈ Finset.range n, (f (j + 1)).toNat * 2 ^ j := ih fun j => f (j + 1)
    simp only [Nat.ofBits_succ, htail, Finset.sum_range_succ', Finset.mul_sum, Nat.pow_succ', Nat.mul_left_comm 2,
      Nat.pow_zero, Nat.mul_one, Fin.val_zero]

/-- The eight bits of a packed byte are its eight items. -/
theorem packByte_eq_ofBits (v : List Bool) (k : Nat) :
    packByte v k = BitVec.ofNat 8 (Nat.ofBits fun j : Fin 8 => v.getD (8 * k + j) false) := by
  rw [ofBits_eq_sum fun j => v.getD (8 * k + j) false]
  simp only [packByte, bitAt_eq_toNat, Finset.sum_range_succ, Finset.sum_range_zero, Nat.add_zero]
  congr 1
  omega

theorem packByte_toNat (v : List Bool) (k : Nat) :
    (packByte v k).toNat = ∑ j ∈ Finset.range 8, bitAt v (8 * k + j) * 2 ^ j := by
  simp only [packByte_eq_ofBits, BitVec.toNat_ofNat, Nat.mod_eq_of_lt (Nat.ofBits_lt_two_pow _), bitAt_eq_toNat]
  exact ofBits_eq_sum (fun j => v.getD (8 * k + j) false) 8

/-- Bit `j` of byte `k` is item `8k + j`. -/
theorem packByte_getLsbD (v : List Bool) (k : Nat) {j : Nat} (h : j < 8) :
    (packByte v k).getLsbD j = v.getD (8 * k + j) false := by
  rw [packByte_eq_ofBits, BitVec.getLsbD_ofNat, Nat.testBit_ofBits_lt _ _ h, decide_eq_true h, Bool.true_and]

/-! ### Packed bits -/

theorem byteAt_packBits {v : List Bool} {k : Nat} (h : k < byteCount v.length) :
    byteAt (packBits v) k = packByte v k := by
  simp [byteAt, packBits, List.getD_eq_getElem?_getD, h]

/-- Settles O23: a packed byte is the sum of its eight items' powers of 2, an item beyond the end counting 0. -/
theorem bitsArePackedLsbFirst : Obligations.BitsArePackedLsbFirst := by
  refine ⟨packBits_length, fun v k hk => ?_, by decide⟩
  rw [byteAt_packBits hk, packByte_toNat]
  exact Finset.sum_congr rfl fun j _ => bitAt_mul v (8 * k + j) (2 ^ j)

/-! ### Reading items back -/

theorem unpackBits_getD (d : List Byte) {n i : Nat} (h : i < n) :
    (unpackBits d n).getD i false = (byteAt d (i / 8)).getLsbD (i % 8) := by
  simp [unpackBits, List.getD_eq_getElem?_getD, h]

theorem unpackWords_getD {d : List Byte} {k : Nat} (h : k < d.length / 2) :
    (unpackWords d).getD k 0 = be16 (byteAt d (2 * k)) (byteAt d (2 * k + 1)) := by
  induction d using unpackWords.induct generalizing k with
  | case1 x y d ih =>
    cases k with
    | zero => rfl
    | succ k => exact ih (by simp only [List.length_cons] at h; omega)
  | case2 d hshort =>
    match d, hshort with
    | [], _ => simp at h
    | [x], _ => simp at h
    | x :: y :: d, hshort => exact absurd rfl (hshort x y d)

/-- Item `i` stands in bit `i mod 8` of byte `i div 8`, where `unpack_bits` reads it. -/
theorem unpackBits_packBits (v : List Bool) : unpackBits (packBits v) v.length = v := by
  refine List.ext_getElem (unpackBits_length _ _) fun i hi hv => ?_
  have hbyte : i / 8 < byteCount v.length := by unfold byteCount; omega
  rw [← List.getD_eq_getElem _ false hi, ← List.getD_eq_getElem _ false hv, unpackBits_getD _ hv,
    byteAt_packBits hbyte, packByte_getLsbD _ _ (Nat.mod_lt _ (by decide)), Nat.div_add_mod]

/-- Settles O24: each item is where R184 reads it, and R180 put it there. -/
theorem unpackingReadsBackItems : Obligations.UnpackingReadsBackItems := by
  refine ⟨fun d n i hi _ => ?_, fun d k hk => unpackWords_getD hk, unpackBits_packBits⟩
  rw [unpackBits_getD d hi, BitVec.getLsbD_ushiftRight, Nat.add_zero]

end Sys2Proof
end

section
/-! PROOFS. spec/43_response_encode.md R181: the lengths of the bodies and of the frames sent. -/

namespace Sys2Proof

/-- R181's table: the length of the body that answers with a Response. -/
def Response.bodyLength : Response → Nat
  | .exc _ => 3
  | .writeOk => 6
  | .bits v => 3 + byteCount v.length
  | .regs w => 3 + 2 * w.length

theorem length_of_encodeResponse {q : Request} {r : Response} {body : List Byte}
    (h : encodeResponse q r = some body) : body.length = r.bodyLength := by
  cases r <;> simp only [encodeResponse, Option.ite_none_right_eq_some, Option.some.injEq] at h <;>
    obtain ⟨-, rfl⟩ := h
  case bits v => exact bitsBody_length _ _ v
  case regs w => exact regsBody_length _ _ w
  case writeOk => exact echoBody_length _ _ _ _
  case exc c => exact excBody_length _ _ c

end Sys2Proof

namespace Sys2Proof.Machine

/-- A reset cycle ends in IDLE, so a step that ends in RESPONDING ran its state's branch. -/
theorem step_of_responding {s t : State} (h : step s = .next t) (ht : t.fsm = .responding) :
    t = branchState Config.t35Cycles s.input (s.popInput.beginCycle Config.t35Cycles s.input) := by
  cases hrst : s.input.rst with
  | false => rw [step_next h, nextState_of_running _ hrst]
  | true =>
    rw [step_next h, nextState_fsm_of_reset _ hrst] at ht
    cases ht

/-- A step that enters RESPONDING loads a body of 3 to 253 bytes. -/
theorem step_enters_responding {s t : State} (h : step s = .next t) (hs : s.fsm ≠ .responding)
    (ht : t.fsm = .responding) :
    ∃ (u : State) (body : List Byte), t = u.loadTx body ∧ 3 ≤ body.length ∧ body.length ≤ 253 := by
  have hbranch := step_of_responding h ht
  rw [hbranch] at ht
  rcases branchState_enters_responding (by simpa using hs) ht with
    ⟨-, addr, fc, -, -, hstate⟩ | ⟨-, -, body, hbody, hstate⟩
  · have hlen := excBody_length addr fc 0x01#8
    exact ⟨_, _, hbranch.trans hstate, by omega, by omega⟩
  · exact ⟨_, body, hbranch.trans hstate, encodeResponse_length hbody⟩

/-- Settles O51: the codec builds bodies by R181's table, and a step that enters RESPONDING loads such a body or its
own exception; a frame has two bytes more. -/
theorem bodiesHaveTheirLengths : Obligations.BodiesHaveTheirLengths := by
  refine ⟨fun q r body h => ?_, fun s t h hs ht => ?_⟩
  · have hlen := length_of_encodeResponse h
    cases r <;> exact hlen
  · obtain ⟨u, body, rfl, hthree, hcap⟩ := step_enters_responding h hs ht
    rw [encodeFrame_length, State.txPrefix_length, State.loadTx_txLen]
    omega

end Sys2Proof.Machine
end

section
/-! PROOFS. spec/44_sequencer.md R206: transfers and stalls in RESPONDING. -/

namespace Sys2Proof.Machine

/-! ### The branch of RESPONDING -/

/-- A transfer absorbs a body byte, and no CRC byte, and advances (R206). -/
theorem branchState_of_transfer (t35 : Nat) {i : Inputs} {s : State} (hs : s.fsm = .responding)
    (hready : i.txReady = true) :
    branchState t35 i s = ((s.noteByte i).setCrc .tx
      (if s.txIdx < s.txLen then crcUpd s.txCrc (s.txBodyByte s.txIdx) else s.txCrc)).sentByte := by
  simp only [branchState, hs, hready, if_true]
  split <;> rfl

theorem branchState_of_stall (t35 : Nat) {i : Inputs} {s : State} (hs : s.fsm = .responding)
    (hstall : i.txReady = false) : branchState t35 i s = s.noteByte i := by
  simp [branchState, hs, hstall]

/-! ### What a transfer and a stall do -/

theorem State.transferred_of_responding {s : State} {i : Inputs} (hs : s.fsm = .responding) (hrst : i.rst = false) :
    s.transferred i = if i.txReady = true then some s.txByte else none := by
  simp [State.transferred, State.txValid, hs, hrst]

/-- R207: `idle_next` after the common updates, which latch this cycle's stop. -/
theorem State.idleNext_beginCycle (t35 : Nat) (i : Inputs) (s : State) :
    (s.beginCycle t35 i).idleNext = if s.stopPending = true ∨ i.stop = true then .stopped else .idle := by
  simp [State.idleNext]

/-- R208: the only event of a busy cycle's common part is EV_RXDROP. -/
theorem State.noteByte_beginCycle_ev (t35 : Nat) (i : Inputs) (s : State) :
    ((s.beginCycle t35 i).noteByte i).ev = if i.rxValid = true then 0x40#8 else 0x00#8 := by
  rw [State.noteByte_ev, State.beginCycle_ev]
  split <;> rfl

/-- Settles O48: by `tx_ready`; the branch is one transfer or none, and either writes only the fields the statement
lists. -/
theorem transfersAdvanceAndStallsHold : Obligations.TransfersAdvanceAndStallsHold := by
  intro s t hs hrst h
  have hev := s.popInput.noteByte_beginCycle_ev Config.t35Cycles s.input
  have hsent := State.transferred_of_responding hs hrst
  have hbranch : (s.popInput.beginCycle Config.t35Cycles s.input).fsm = .responding := hs
  rw [step_next h, nextState_of_running _ hrst]
  cases hready : s.input.txReady with
  | true =>
    rw [branchState_of_transfer _ hbranch hready]
    refine ⟨rfl, rfl, rfl, rfl, rfl, rfl, rfl, rfl, hev, hready ▸ hsent, fun _ => ⟨rfl, rfl, ?_⟩, nofun⟩
    have hdone := s.popInput.idleNext_beginCycle Config.t35Cycles s.input
    rw [State.sentByte_fsm]
    exact if_congr Iff.rfl hdone hs
  | false =>
    rw [branchState_of_stall _ hbranch hready]
    exact ⟨rfl, rfl, rfl, rfl, rfl, rfl, rfl, rfl, hev, hready ▸ hsent, nofun, fun _ => ⟨rfl, rfl, hs, rfl⟩⟩

end Sys2Proof.Machine
end

section
/-! PROOFS. spec/44_sequencer.md R216: the transition relation of the sequencer. -/

namespace Sys2Proof.Machine

/-! ### The edges of the receive states -/

theorem branchState_fsm_of_idle (t35 : Nat) (i : Inputs) {s : State} (hs : s.fsm = .idle) :
    (branchState t35 i s).fsm =
      if s.stopPending = true then .stopped else if i.rxValid = true then .receiving else .idle := by
  simp only [branchState, hs, apply_ite State.fsm]
  rfl

/-- R124's early boundary after a byte, on the state before it. Where the store is full the byte only marks an overrun,
and it is not the 8th. -/
theorem earlyEnd_appendState_iff (b : Byte) (s : State) :
    earlyEnd (appendState b s) = true ↔
      s.rxOvf = false ∧ s.rxLen = 7 ∧ fixedLen (s.rxByte 1) = some 8 ∧ crcOk (s.rxFrame ++ [b]) = true := by
  rcases Nat.lt_or_ge s.rxLen Config.rxCap with hroom | hfull
  · have hstate := appendState_of_room b hroom
    have hframe : (appendState b s).rxFrame = s.rxFrame ++ [b] := by
      rw [State.rxFrame_append s _ b (by rw [hstate]) (by rw [hstate]) (by rw [hstate]; rfl)]
    have hovf : (appendState b s).rxOvf = s.rxOvf := by rw [hstate]; rfl
    have hfc (hlen : s.rxLen = 7) : byteAt (s.rxFrame ++ [b]) 1 = s.rxByte 1 := by
      rw [← byteAt_of_isPrefix (List.prefix_append _ _) (by simp [hlen]), s.byteAt_rxFrame (by omega)]
    rw [earlyEnd_iff, hovf, hframe, EndsEarly, fixedLen_eq_some_iff, List.length_append, List.length_singleton,
      State.rxFrame_length, Nat.succ_inj]
    exact and_congr_right fun _ => and_congr_right fun hlen => by rw [hfc hlen]
  · have hovf : (appendState b s).rxOvf = true := by rw [appendState_of_full b hfull]
    rw [earlyEnd_of_overrun hovf]
    refine iff_of_false Bool.false_ne_true fun ⟨_, hlen, _⟩ => ?_
    rw [hlen] at hfull
    exact absurd hfull (by decide)

theorem branchState_fsm_of_receiving (t35 : Nat) (i : Inputs) {s : State} (hs : s.fsm = .receiving) :
    (branchState t35 i s).fsm =
      if i.stop = true then .stopped
      else if i.rxValid = true then
        if earlyEnd (appendState i.rxData s) = true then .validating else .receiving
      else if s.gapCnt = t35 then .validating else .receiving := by
  cases hstop : i.stop with
  | true => simp [branchState, hs, hstop]
  | false =>
    cases hvalid : i.rxValid with
    | true => rw [branchState_of_byte t35 hs hvalid hstop]; rfl
    | false => rw [branchState_of_silence t35 hs hvalid hstop]; rfl

/-- R26, R124: the saturating silence count reaches `T35_CYCLES` in a silent cycle that counts to it or beyond. -/
theorem State.beginCycle_gapCnt_eq_iff (t35 : Nat) {i : Inputs} (h : i.rxValid = false) (s : State) :
    (s.beginCycle t35 i).gapCnt = t35 ↔ t35 ≤ s.gapCnt + 1 := by
  simp [h]

/-! ### The edges of the busy states -/

/-- R216: where a verdict leads, `done` being `idle_next`. -/
def Verdict.target (done : Fsm) : Verdict → Fsm
  | .ignore _ => done
  | .respondException _ _ _ => .responding
  | .dispatch _ => .dispatching

theorem branchState_fsm_of_validating (t35 : Nat) (i : Inputs) {s : State} (hs : s.fsm = .validating) :
    (branchState t35 i s).fsm = (validate s).target s.idleNext := by
  simp only [branchState, hs]
  cases validate s <;> rfl

theorem branchState_fsm_of_dispatching (t35 : Nat) (i : Inputs) {s : State} (hs : s.fsm = .dispatching) :
    (branchState t35 i s).fsm =
      if i.respValid = true then
        if (encodeResponse s.request i.resp).isSome = true then .responding else s.idleNext
      else .dispatching := by
  simp only [branchState, hs]
  split
  · cases encodeResponse s.request i.resp <;> rfl
  · exact hs

theorem branchState_fsm_of_responding (t35 : Nat) (i : Inputs) {s : State} (hs : s.fsm = .responding) :
    (branchState t35 i s).fsm =
      if i.txReady = true ∧ s.txIdx + 1 = s.txLen + 2 then s.idleNext else .responding := by
  cases hready : i.txReady with
  | true => simp [branchState_of_transfer t35 hs hready, hs]
  | false => simp [branchState_of_stall t35 hs hready, hs]

theorem branchState_of_stopped (t35 : Nat) (i : Inputs) {s : State} (hs : s.fsm = .stopped) :
    branchState t35 i s = s := by
  simp [branchState, hs]

/-! ### The transition relation -/

/-- Settles O41: the edges of each state's branch, read back through the common updates. -/
theorem transitionsFollowTheGraph : Obligations.TransitionsFollowTheGraph := by
  intro s t done hrst h hdone
  rw [← State.idleNext_beginCycle Config.t35Cycles] at hdone
  subst hdone
  rw [step_next h, nextState_of_running _ hrst]
  refine ⟨fun hs => ?idle, fun hs => ?receiving, fun hs => ?validating, fun hs => ?dispatching,
    fun hs => ?responding, fun hs => ?stopped⟩
  case idle =>
    rw [branchState_fsm_of_idle _ _ (by simpa using hs)]
    simp
  case receiving =>
    rw [branchState_fsm_of_receiving _ _ (by simpa using hs)]
    cases hvalid : s.input.rxValid with
    | true => simp only [earlyEnd_appendState_iff, if_true]; rfl
    | false => simp only [State.beginCycle_gapCnt_eq_iff _ hvalid]; rfl
  case validating =>
    rw [branchState_fsm_of_validating _ _ (by simpa using hs), validate_beginCycle, validate_popInput]
    cases validate s <;> rfl
  case dispatching => exact branchState_fsm_of_dispatching _ _ (by simpa using hs)
  case responding => exact branchState_fsm_of_responding _ _ (by simpa using hs)
  case stopped => rw [branchState_of_stopped _ _ (by simpa using hs)]; exact hs

end Sys2Proof.Machine
end

section
/-! PROOFS. spec/44_sequencer.md R208: bytes received while the codec is busy. -/

namespace Sys2Proof.Machine

/-! ### Whether a branch answers -/

/-- Whether a branch answers depends on the state's name, its lengths and `tx_ready` alone. -/
theorem branch_eq_of_next {t35 : Nat} {i j : Inputs} {s u t : State} (h : branch t35 i s = .next t)
    (hfsm : u.fsm = s.fsm) (hrxLen : u.rxLen = s.rxLen) (htxIdx : u.txIdx = s.txIdx) (htxLen : u.txLen = s.txLen)
    (hready : j.txReady = i.txReady) : branch t35 j u = .next (branchState t35 j u) := by
  by_cases hstall : s.fsm = .responding ∧ i.txReady = false
  · obtain ⟨hs, hi⟩ := hstall
    simp [branch, branchState, respondingBranch, hfsm, hs, hready, hi]
  · have hrange : s.readsInRange := branch_readsInRange h fun hs => by simpa [hs] using hstall
    exact branch_eq t35 j (by simpa only [State.readsInRange, hfsm, hrxLen, htxIdx, htxLen] using hrange)

/-! ### A discarded byte -/

/-- The same inputs, but with the byte `b` received. -/
def Inputs.withByte (b : Byte) (i : Inputs) : Inputs := { i with rxValid := true, rxData := b }

@[simp] theorem Inputs.withByte_rst (b : Byte) (i : Inputs) : (i.withByte b).rst = i.rst := rfl
@[simp] theorem Inputs.withByte_txReady (b : Byte) (i : Inputs) : (i.withByte b).txReady = i.txReady := rfl
@[simp] theorem Inputs.withByte_respValid (b : Byte) (i : Inputs) : (i.withByte b).respValid = i.respValid := rfl
@[simp] theorem Inputs.withByte_resp (b : Byte) (i : Inputs) : (i.withByte b).resp = i.resp := rfl

/-- What a byte does that is received while busy (R208). -/
def State.discardByte (s : State) : State := { s with ev := s.ev ||| Event.rxDrop.mask, gapCnt := 0 }

/-- The common part of a busy cycle with a byte is that of the silent cycle, with the byte discarded. -/
theorem State.noteByte_withByte (t35 : Nat) {i : Inputs} (h : i.rxValid = false) (b : Byte) (s : State) :
    (s.beginCycle t35 (i.withByte b)).noteByte (i.withByte b) = ((s.beginCycle t35 i).noteByte i).discardByte := by
  simp [State.noteByte, State.beginCycle, State.discardByte, Inputs.withByte, h]

/-- Event bits meet in any order (R33). -/
theorem State.emit_discardByte (e : Event) (s : State) : s.discardByte.emit e = (s.emit e).discardByte := by
  simp only [State.emit, State.discardByte, BitVec.or_assoc, BitVec.or_comm e.mask]

theorem State.dropFrame_discardByte (e : Event) (s : State) :
    s.discardByte.dropFrame e = (s.dropFrame e).discardByte := by
  rw [State.dropFrame, State.emit_discardByte]
  rfl

/-- A busy state's branch does the same with a byte received, and discards the byte (R208). -/
theorem branchState_withByte (t35 : Nat) {i : Inputs} {s : State} (b : Byte)
    (hs : s.fsm = .validating ∨ s.fsm = .dispatching ∨ s.fsm = .responding) (h : i.rxValid = false) :
    branchState t35 (i.withByte b) (s.beginCycle t35 (i.withByte b)) =
      (branchState t35 i (s.beginCycle t35 i)).discardByte := by
  have hnote := State.noteByte_withByte t35 h b s
  rcases hs with hs | hs | hs
  · simp only [branchState, State.beginCycle_fsm, hs, validate_beginCycle, hnote]
    cases validate s with
    | ignore r => exact State.dropFrame_discardByte _ _
    | respondException addr fc code => rw [State.emit_discardByte]; rfl
    | dispatch q => rfl
  · simp only [branchState, State.beginCycle_fsm, hs, State.request_beginCycle, hnote,
      Inputs.withByte_respValid, Inputs.withByte_resp]
    cases i.respValid with
    | false => rfl
    | true =>
      cases encodeResponse s.request i.resp with
      | some body => rfl
      | none => exact State.dropFrame_discardByte _ _
  · have hbranch (j : Inputs) : (s.beginCycle t35 j).fsm = .responding := hs
    cases hready : i.txReady with
    | true =>
      rw [branchState_of_transfer t35 (hbranch _) ((Inputs.withByte_txReady b i).trans hready),
        branchState_of_transfer t35 (hbranch _) hready, hnote]
      rfl
    | false =>
      rw [branchState_of_stall t35 (hbranch _) ((Inputs.withByte_txReady b i).trans hready),
        branchState_of_stall t35 (hbranch _) hready, hnote]

/-- A busy cycle with a byte answers what the silent one does, with the byte discarded (R208). -/
theorem codecStep_withByte {t35 : Nat} {i : Inputs} {s t : State} (b : Byte)
    (hs : s.fsm = .validating ∨ s.fsm = .dispatching ∨ s.fsm = .responding) (hrst : i.rst = false)
    (hsilent : i.rxValid = false) (h : codecStep t35 i s = .next t) :
    codecStep t35 (i.withByte b) s = .next t.discardByte := by
  rw [codecStep_next h, nextState_of_running _ hrst, ← branchState_withByte t35 b hs hsilent]
  rw [codecStep, if_neg (by simp [hrst])] at h
  rw [codecStep, if_neg (by simp [hrst])]
  exact branch_eq_of_next h rfl rfl rfl rfl rfl

/-- Settles O49: both cycles take the same schedule, and the one with the byte discards it. -/
theorem bytesWhileBusyAreDiscarded : Obligations.BytesWhileBusyAreDiscarded := fun s _ _ _ hs hrst hsilent h b =>
  codecStep_withByte b (s := { s with inputs := _ }) hs hrst hsilent h

end Sys2Proof.Machine
end

section
/-! PROOFS. spec/44_sequencer.md R213: the inputs that each state reads. -/

namespace Sys2Proof.Machine

/-- R213: two inputs agree where the branch of a state reads them. -/
structure Inputs.AgreeIn (f : Fsm) (i j : Inputs) : Prop where
  rxValid : i.rxValid = j.rxValid
  rxData : i.rxValid = true → f = .idle ∨ f = .receiving → i.rxData = j.rxData
  stop : f ≠ .stopped → i.stop = j.stop
  txReady : f = .responding → i.txReady = j.txReady
  respValid : f = .dispatching → i.respValid = j.respValid
  resp : f = .dispatching → i.respValid = true → i.resp = j.resp

/-- The common updates read `rx_valid`, and `stop` unless a stop is pending. -/
theorem State.beginCycle_congr (t35 : Nat) {i j : Inputs} {s : State} (hvalid : i.rxValid = j.rxValid)
    (hstop : s.stopPending = true ∨ i.stop = j.stop) : s.beginCycle t35 i = s.beginCycle t35 j := by
  have hlatch : (s.stopPending || i.stop) = (s.stopPending || j.stop) := by
    rcases hstop with h | h <;> simp [h]
  rw [State.beginCycle, State.beginCycle, hvalid, hlatch]

theorem State.noteByte_congr {i j : Inputs} (hvalid : i.rxValid = j.rxValid) (s : State) :
    s.noteByte i = s.noteByte j := by
  rw [State.noteByte, State.noteByte, hvalid]

/-- A branch reads no other input (R213). -/
theorem branch_congr (t35 : Nat) {i j : Inputs} {s : State} (h : i.AgreeIn s.fsm j) :
    branch t35 i s = branch t35 j s := by
  have hnote := State.noteByte_congr h.rxValid s
  unfold branch
  cases hs : s.fsm with
  | idle =>
    simp only [idleBranch, ← h.rxValid]
    split
    · rfl
    · split
      · rw [h.rxData ‹_› (.inl hs)]
      · rfl
  | receiving =>
    simp only [receivingBranch, ← h.rxValid, ← h.stop (by simp [hs])]
    split
    · rfl
    · split
      · rw [h.rxData ‹_› (.inr hs)]
      · rfl
  | validating => simp only [validatingBranch, hnote]
  | dispatching =>
    simp only [dispatchingBranch, hnote, ← h.respValid hs]
    split
    · split
      · rw [h.resp hs ‹_›]
      · rfl
    · rfl
  | responding => simp only [respondingBranch, hnote, h.txReady hs]
  | stopped => rfl

theorem codecStep_congr_of_reset (t35 : Nat) {i j : Inputs} (hi : i.rst = true) (hj : j.rst = true)
    (hunit : i.cfgUnitId = j.cfgUnitId) (hpromisc : i.cfgPromisc = j.cfgPromisc) (s : State) :
    codecStep t35 i s = codecStep t35 j s := by
  rw [codecStep, codecStep, if_pos hi, if_pos hj, resetCycle, resetCycle, hunit, hpromisc]

theorem codecStep_congr_of_running (t35 : Nat) {i j : Inputs} {s : State} (hi : i.rst = false) (hj : j.rst = false)
    (hpending : s.fsm = .stopped → s.stopPending = true) (h : i.AgreeIn s.fsm j) :
    codecStep t35 i s = codecStep t35 j s := by
  have hstop : s.stopPending = true ∨ i.stop = j.stop := (em (s.fsm = .stopped)).imp hpending h.stop
  simp only [codecStep, hi, hj, State.beginCycle_congr t35 h.rxValid hstop]
  exact branch_congr t35 (s := s.beginCycle t35 j) h

/-- Settles O39: a reset cycle reads only the configuration; in any other the common updates and the branch read only
what agrees. -/
theorem unreadInputsChangeNothing : Obligations.UnreadInputsChangeNothing := by
  intro s i j rest hrst hreset hrun
  cases hi : i.rst with
  | true =>
    obtain ⟨hunit, hpromisc⟩ := hreset hi
    exact codecStep_congr_of_reset _ hi (hrst ▸ hi) hunit hpromisc _
  | false =>
    obtain ⟨hvalid, hdata, hpending, hstop, hready, hresp⟩ := hrun hi
    exact codecStep_congr_of_running _ (s := { s with inputs := rest }) hi (hrst ▸ hi) hpending
      ⟨hvalid, hdata, hstop, hready, fun hs => (hresp hs).1, fun hs => (hresp hs).2⟩

end Sys2Proof.Machine
end

section
/-! PROOFS. spec/60_exceptions.md R235: the events that meet in one cycle. -/

namespace Sys2Proof.Machine

/-! ### Event bits -/

/-- The bit of an event that may have happened. -/
def Event.maskOf : Option Event → BitVec 8
  | none => 0#8
  | some e => e.mask

theorem Event.mask_eq_twoPow (e : Event) : e.mask = BitVec.twoPow 8 e.bit := by
  rw [BitVec.twoPow_eq, Event.mask]

theorem Event.mem_bits_of_getLsbD_maskOf {o : Option Event} {k : Nat} (h : (Event.maskOf o).getLsbD k = true) :
    k ∈ o.toList.map Event.bit := by
  cases o with
  | none => simp [Event.maskOf] at h
  | some e =>
    rw [Event.maskOf, Event.mask_eq_twoPow, BitVec.getLsbD_twoPow] at h
    simp only [Bool.and_eq_true, decide_eq_true_eq] at h
    simp [h.2]

/-- Two events set at most two bits: every bit set is the bit of one of them. -/
theorem Event.maskOf_or_maskOf_bits_le (o p : Option Event) :
    ((List.range 8).filter fun k => (Event.maskOf o ||| Event.maskOf p).getLsbD k).length ≤ 2 := by
  have hsubset : ((List.range 8).filter fun k => (Event.maskOf o ||| Event.maskOf p).getLsbD k) ⊆
      o.toList.map Event.bit ++ p.toList.map Event.bit := by
    intro k hk
    have hset := (List.mem_filter.mp hk).2
    rw [BitVec.getLsbD_or, Bool.or_eq_true] at hset
    exact List.mem_append.mpr (hset.imp Event.mem_bits_of_getLsbD_maskOf Event.mem_bits_of_getLsbD_maskOf)
  calc ((List.range 8).filter fun k => (Event.maskOf o ||| Event.maskOf p).getLsbD k).length
    _ ≤ (o.toList.map Event.bit ++ p.toList.map Event.bit).length :=
      ((List.nodup_range.filter _).subperm hsubset).length_le
    _ = o.toList.length + p.toList.length := by simp
    _ ≤ 2 := Nat.add_le_add Option.length_toList_le Option.length_toList_le

/-! ### The events of a cycle -/

/-- R208: the event of a byte received while busy. -/
def State.byteEvent (i : Inputs) (s : State) : Option Event :=
  if s.busy && i.rxValid then some .rxDrop else none

/-- R203: the event of a verdict. -/
def Verdict.event : Verdict → Option Event
  | .ignore r => some r.event
  | .respondException _ _ _ => some .illFunc
  | .dispatch _ => none

/-- R203, R205: the event of the state's own work, beside that of a byte received. -/
def State.workEvent (i : Inputs) (s : State) : Option Event :=
  match s.fsm with
  | .validating => (validate s).event
  | .dispatching => if i.respValid && (encodeResponse s.request i.resp).isNone then some .respErr else none
  | _ => none

theorem appendState_ev (b : Byte) (s : State) : (appendState b s).ev = s.ev := by
  unfold appendState
  split <;> rfl

theorem State.noteByte_ev_of_busy (i : Inputs) {s : State} (h : s.busy = true) :
    (s.noteByte i).ev = s.ev ||| Event.maskOf (s.byteEvent i) := by
  rw [State.noteByte_ev, State.byteEvent, h, Bool.true_and]
  cases i.rxValid <;> simp [Event.maskOf]

/-- IDLE, RECEIVING and STOPPED have no events. -/
theorem branchState_ev_of_not_busy (t35 : Nat) (i : Inputs) {s : State} (h : s.busy = false) :
    (branchState t35 i s).ev = s.ev := by
  unfold branchState
  cases hs : s.fsm with
  | idle =>
    dsimp only
    split
    · rfl
    · split <;> rfl
  | receiving =>
    dsimp only
    split
    · rfl
    · split
      · split <;> exact appendState_ev i.rxData s
      · split <;> rfl
  | validating | dispatching | responding => simp [State.busy, hs] at h
  | stopped => rfl

theorem State.workEvent_of_not_busy (i : Inputs) {s : State} (h : s.busy = false) : s.workEvent i = none := by
  unfold State.workEvent
  cases hs : s.fsm with
  | validating | dispatching | responding => simp [State.busy, hs] at h
  | idle | receiving | stopped => rfl

/-- A busy state's branch adds the event of its own work to what the byte left. -/
theorem branchState_ev_of_busy (t35 : Nat) (i : Inputs) {s : State} (h : s.busy = true) :
    (branchState t35 i s).ev = (s.noteByte i).ev ||| Event.maskOf (s.workEvent i) := by
  unfold branchState State.workEvent
  rcases s.busy_iff.mp h with hs | hs | hs <;> simp only [hs]
  · cases validate s with
    | ignore r => rfl
    | respondException addr fc code => rfl
    | dispatch q => exact BitVec.or_zero.symm
  · cases i.respValid with
    | false => exact BitVec.or_zero.symm
    | true =>
      cases encodeResponse s.request i.resp with
      | some body => exact BitVec.or_zero.symm
      | none => rfl
  · rw [Event.maskOf, BitVec.or_zero]
    split
    · split <;> rfl
    · rfl

/-- A branch adds its events, the byte's and its own, and loses none. -/
theorem branchState_ev (t35 : Nat) (i : Inputs) (s : State) :
    (branchState t35 i s).ev = s.ev ||| (Event.maskOf (s.byteEvent i) ||| Event.maskOf (s.workEvent i)) := by
  cases h : s.busy with
  | true => rw [branchState_ev_of_busy t35 i h, State.noteByte_ev_of_busy i h, BitVec.or_assoc]
  | false =>
    rw [branchState_ev_of_not_busy t35 i h, State.workEvent_of_not_busy i h, State.byteEvent, h]
    simp [Event.maskOf]

/-- A step's `ev` is what its own cycle's two events set, as the common updates clear it (R200). -/
theorem step_ev {s t : State} (h : step s = .next t) (hrst : s.input.rst = false) :
    t.ev = Event.maskOf (s.byteEvent s.input) ||| Event.maskOf (s.workEvent s.input) := by
  rw [step_next h, nextState_of_running _ hrst, branchState_ev, State.beginCycle_ev]
  exact BitVec.zero_or

theorem step_ev_of_reset {s t : State} (h : step s = .next t) (hrst : s.input.rst = true) : t.ev = 0#8 := by
  rw [step_next h, nextState, if_pos hrst]
  rfl

/-- Where a byte meets the event `e` of the state's own work, exactly EV_RXDROP and `e` are set. -/
theorem step_ev_of_byte_meets {s t : State} {e : Event} (h : step s = .next t) (hrst : s.input.rst = false)
    (hbusy : s.busy = true) (hbyte : s.input.rxValid = true) (hwork : s.workEvent s.input = some e) :
    t.ev = 0x40#8 ||| e.mask := by
  rw [step_ev h hrst, hwork, State.byteEvent, hbusy, hbyte]
  rfl

/-- Settles O40: a cycle has at most two events, a byte's and that of the state's own work; where both happen, `ev` is
their two bits. -/
theorem atMostTwoEventsMeet : Obligations.AtMostTwoEventsMeet := by
  intro s t h
  refine ⟨?bound, fun hrst hs hbyte => ?validating, fun hrst hs hbyte hresp hrefused => ?dispatching⟩
  case bound =>
    cases hrst : s.input.rst with
    | true => rw [step_ev_of_reset h hrst]; decide
    | false => rw [step_ev h hrst]; exact Event.maskOf_or_maskOf_bits_le _ _
  case validating =>
    have hbusy : s.busy = true := s.busy_iff.mpr (.inl hs)
    refine ⟨fun r hv => ?_, fun addr fc code hv => ?_⟩ <;>
      exact step_ev_of_byte_meets h hrst hbusy hbyte (by rw [State.workEvent, hs, hv]; rfl)
  case dispatching =>
    have hbusy : s.busy = true := s.busy_iff.mpr (.inr (.inl hs))
    exact step_ev_of_byte_meets h hrst hbusy hbyte (by rw [State.workEvent, hs, hresp, hrefused]; rfl)

end Sys2Proof.Machine
end

section
/-! PROOFS. spec/70_reset_and_hazards.md: what a reset cycle writes (R260) and the outputs after it (R261). -/

namespace Sys2Proof.Machine

/-- A cycle with `rst` = 1 answers in every state: it reads no store, so none of the step's faults can arise. -/
theorem step_of_reset {s : State} (hrst : s.input.rst = true) : step s = .next (resetState s.input s.popInput) := by
  rw [step_eq fun hrun => absurd (hrun.symm.trans hrst) Bool.false_ne_true, nextState, if_pos hrst]

theorem step_fsm_of_reset {s t : State} (h : step s = .next t) (hrst : s.input.rst = true) : t.fsm = .idle := by
  rw [step_next h, nextState_fsm_of_reset _ hrst]

/-- Settles O32: the next state is `resetState`, which takes only the configuration from the inputs and every other
field of R260 from `State.reset`. -/
theorem resetWritesEveryField : Obligations.ResetWritesEveryField := fun _ hrst =>
  ⟨_, step_of_reset hrst, rfl, rfl, rfl, rfl, rfl, rfl, rfl, rfl, rfl, rfl, rfl, rfl⟩

/-- Settles O33: five of the outputs are functions of `fsm` (R31), which a reset cycle leaves in IDLE, and the sixth is
`ev`, which it clears. -/
theorem resetQuietsTheOutputs : Obligations.ResetQuietsTheOutputs := by
  intro s t hrst h
  have hidle : t.fsm = .idle := step_fsm_of_reset h hrst
  refine ⟨congrArg Fsm.code hidle, ?busy, ?stopped, ?txValid, ?reqValid, step_ev_of_reset h hrst⟩ <;>
    apply Bool.eq_false_iff.mpr
  case busy => exact mt t.busy_iff.mp (by simp [hidle])
  case stopped => exact mt t.outputs_stopped_iff.mp (by simp [hidle])
  case txValid => exact mt t.txValid_iff.mp (by simp [hidle])
  case reqValid => exact mt t.reqValid_iff.mp (by simp [hidle])

end Sys2Proof.Machine
end

section
/-! PROOFS. spec/40_crc.md R103: `crc_upd` is linear and loses nothing, so one changed byte changes the CRC. -/

namespace Sys2Proof

/-! ### Linearity -/

/-- A turn of the loop is linear over GF(2): whether the constant is folded in is the xor of two bits. -/
theorem crcShift_xor (r q : Word) : crcShift (r ^^^ q) = crcShift r ^^^ crcShift q := by
  simp only [crcShift, BitVec.getLsbD_xor, BitVec.ushiftRight_xor_distrib]
  cases r.getLsbD 0 <;> cases q.getLsbD 0 <;> ext k hk <;> simp [Bool.xor_comm, Bool.xor_left_comm]

theorem crcShift_iterate_xor (k : Nat) (r q : Word) : crcShift^[k] (r ^^^ q) = crcShift^[k] r ^^^ crcShift^[k] q := by
  induction k generalizing r q with
  | zero => rfl
  | succ k ih => rw [Function.iterate_succ_apply, crcShift_xor, ih]; rfl

theorem crcUpd_xor (c d : Word) (a b : Byte) : crcUpd (c ^^^ d) (a ^^^ b) = crcUpd c a ^^^ crcUpd d b := by
  simp only [crcUpd_eq_iterate, ← crcShift_iterate_xor, BitVec.setWidth_xor]
  congr 1
  ac_rfl

theorem foldl_crcUpd_xor (c d : Word) {m n : List Byte} (h : m.length = n.length) :
    m.foldl crcUpd c ^^^ n.foldl crcUpd d = (List.zipWith (· ^^^ ·) m n).foldl crcUpd (c ^^^ d) := by
  induction m generalizing c d n with
  | nil => cases n with
    | nil => rfl
    | cons b n => simp at h
  | cons a m ih =>
    cases n with
    | nil => simp at h
    | cons b n =>
      simp only [List.foldl_cons, List.zipWith_cons_cons, crcUpd_xor]
      exact ih _ _ (by simpa using h)

/-- Settles O19: the two CRCs start from the same value, whose xor with itself is 0. -/
theorem crcIsAffine : Obligations.CrcIsAffine := by
  intro m n h
  rw [crc16, crc16, foldl_crcUpd_xor _ _ h, BitVec.xor_self]

/-! ### The table form -/

theorem hi_setWidth_eq_ushiftRight (c : Word) : (hi c).setWidth 16 = c >>> 8 := by
  apply BitVec.eq_of_toNat_eq
  rw [BitVec.toNat_setWidth_of_le (by decide), hi_toNat, BitVec.toNat_ushiftRight, Nat.shiftRight_eq_div_pow]

theorem lo_eq_setWidth (c : Word) : lo c = c.setWidth 8 := by
  apply BitVec.eq_of_toNat_eq
  rw [lo_toNat, BitVec.toNat_setWidth]

/-- Settles O18: by linearity the update is that of the low byte, which only shifts (R103 (b)), and that of the low
byte's difference to `b` from 0. -/
theorem crcHasItsTableForm : Obligations.CrcHasItsTableForm := fun c b => calc
  crcUpd c b = crcUpd (c ^^^ 0#16) (lo c ^^^ (lo c ^^^ b)) := by
    rw [BitVec.xor_zero, ← BitVec.xor_assoc, BitVec.xor_self, BitVec.zero_xor]
  _ = crcUpd c (lo c) ^^^ crcUpd 0#16 (lo c ^^^ b) := crcUpd_xor _ _ _ _
  _ = (c >>> 8) ^^^ crcUpd 0#16 (lo (c ^^^ b.setWidth 16)) := by
    rw [crcUpd_lo, hi_setWidth_eq_ushiftRight, lo_xor_setWidth]
  _ = (c >>> 8) ^^^ crcUpd 0#16 ((c ^^^ b.setWidth 16).setWidth 8) := by rw [lo_eq_setWidth]

/-! ### Single-byte errors -/

theorem four_le_length_of_crcOk {f : List Byte} (h : crcOk f = true) : 4 ≤ f.length := by
  simp only [crcOk, Bool.and_eq_true, decide_eq_true_eq] at h
  exact h.1

/-- A turn takes only 0 to 0: a turn that folds in the constant sets bit 15, and halving an even word loses nothing. -/
theorem crcShift_eq_zero {r : Word} (h : crcShift r = 0#16) : r = 0#16 := by
  have heven : r.toNat % 2 = 0 := even_of_crcShift_lt (by rw [h]; decide)
  have hhalf : r.toNat / 2 = 0 := by rw [← crcShift_toNat_of_even heven, h]; rfl
  apply BitVec.eq_of_toNat_eq
  rw [BitVec.toNat_zero]
  omega

theorem crcShift_injective : Function.Injective crcShift := fun r q h =>
  BitVec.xor_eq_zero_iff.mp (crcShift_eq_zero (by rw [crcShift_xor, h, BitVec.xor_self]))

theorem crcUpd_eq_iff {c d : Word} {a b : Byte} :
    crcUpd c a = crcUpd d b ↔ c ^^^ a.setWidth 16 = d ^^^ b.setWidth 16 :=
  (crcShift_injective.iterate 8).eq_iff

theorem crcUpd_left_injective (b : Byte) : Function.Injective (crcUpd · b) := fun _ _ h =>
  (BitVec.xor_left_inj _).mp (crcUpd_eq_iff.mp h)

theorem crcUpd_right_injective (c : Word) : Function.Injective (crcUpd c) := fun a b h => by
  have hwide : a.setWidth 16 = b.setWidth 16 := (BitVec.xor_right_inj _).mp (crcUpd_eq_iff.mp h)
  rw [← lo_setWidth a, hwide, lo_setWidth]

/-- Equal bytes keep two different registers different. -/
theorem foldl_crcUpd_injective (m : List Byte) : Function.Injective (m.foldl crcUpd ·) := by
  induction m with
  | nil => exact fun _ _ h => h
  | cons b m ih => exact ih.comp (crcUpd_left_injective b)

/-- R103 (d), on the CRC of the whole frame. -/
theorem crc16_set_ne {f : List Byte} {k : Nat} {b : Byte} (hk : k < f.length) (hb : b ≠ byteAt f k) :
    crc16 (f.set k b) ≠ crc16 f := by
  intro h
  have hset : f.set k b = f.take k ++ b :: f.drop (k + 1) := by
    rw [List.set_eq_take_append_cons_drop, if_pos hk]
  have hsplit : f = f.take k ++ byteAt f k :: f.drop (k + 1) := by
    rw [byteAt, List.getD_eq_getElem _ _ hk, List.getElem_cons_drop, List.take_append_drop]
  have hfold (c : Byte) : crc16 (f.take k ++ c :: f.drop (k + 1)) =
      (f.drop (k + 1)).foldl crcUpd (crcUpd (crc16 (f.take k)) c) := crc16_append _ _
  rw [hset, congrArg crc16 hsplit, hfold, hfold] at h
  exact hb (crcUpd_right_injective _ (foldl_crcUpd_injective _ h))

/-- Settles O20: the frame check is a zero CRC (R111), and the changed byte changes it. -/
theorem singleByteErrorIsDetected : Obligations.SingleByteErrorIsDetected := by
  intro f k b hok hk hb
  have hlen : 4 ≤ f.length := four_le_length_of_crcOk hok
  have hzero : crc16 f = 0#16 := (crcOk_iff_crc16_eq_zero hlen).mp hok
  have hne : crc16 (f.set k b) ≠ 0#16 := hzero ▸ crc16_set_ne hk hb
  exact Bool.eq_false_iff.mpr (mt (crcOk_iff_crc16_eq_zero (by rwa [List.length_set])).mp hne)

end Sys2Proof
end

section
/-! PROOFS. spec/30_encoding.md R75, R77, R78: a received frame and the instruction it decodes to. -/

namespace Sys2Proof

/-! ### A Request's instruction -/

/-- A supported code selects the request instruction whose encoding is the Request's (R77, R185). -/
theorem encode_instr_of_supported {q : Request} (h : supportedFc q.fc = true) :
    encode q.instr = .request (encodeRequest q) := by
  obtain ⟨addr, fc, a, b, bc, data⟩ := q
  rcases (supportedFc_iff fc).mp h with rfl | rfl | rfl | rfl | rfl | rfl | rfl | rfl <;> rfl

/-- An unsupported code selects the codec's own IllegalFunction response (R78). -/
theorem instr_of_unsupported {q : Request} (h : supportedFc q.fc = false) :
    q.instr = .illegalFunctionRsp q.addr q.fc := by
  have hcodes : ¬ supportedFc q.fc = true := by simp [h]
  simp only [supportedFc_iff, not_or] at hcodes
  simp [Request.instr, hcodes]

/-- The instruction of a Request is well formed wherever its payload, if its format has one, fits (R75, R158). -/
theorem wellFormed_instr_iff (q : Request) :
    q.instr.wellFormed = true ↔ (isMultiple q.fc = true → payloadOk q.bc q.data = true) := by
  cases h : supportedFc q.fc with
  | true =>
    obtain ⟨addr, fc, a, b, bc, data⟩ := q
    rcases (supportedFc_iff fc).mp h with rfl | rfl | rfl | rfl | rfl | rfl | rfl | rfl <;>
      simp [Request.instr, Instr.wellFormed, isMultiple]
  | false =>
    have hmultiple : isMultiple q.fc = false := by
      rw [Bool.eq_false_iff, ne_eq, isMultiple_iff]
      rintro (hfc | hfc) <;> rw [hfc] at h <;> cases h
    simp [instr_of_unsupported h, Instr.wellFormed, h, hmultiple]

/-- An instruction that is encoded as a received frame is a Request's, with nothing in the fields that its format
lacks. -/
theorem exists_request_of_encode {i : Instr} {f : List Byte} (h : encode i = .request f) :
    ∃ q : Request, q.instr = i ∧ supportedFc q.fc = true ∧
      (isMultiple q.fc = false → q.bc = 0 ∧ q.data = []) := by
  cases i with
  | readCoils addr a b => exact ⟨⟨addr, 0x01#8, a, b, 0, []⟩, rfl, rfl, fun _ => ⟨rfl, rfl⟩⟩
  | readDiscreteInputs addr a b => exact ⟨⟨addr, 0x02#8, a, b, 0, []⟩, rfl, rfl, fun _ => ⟨rfl, rfl⟩⟩
  | readHoldingRegisters addr a b => exact ⟨⟨addr, 0x03#8, a, b, 0, []⟩, rfl, rfl, fun _ => ⟨rfl, rfl⟩⟩
  | readInputRegisters addr a b => exact ⟨⟨addr, 0x04#8, a, b, 0, []⟩, rfl, rfl, fun _ => ⟨rfl, rfl⟩⟩
  | writeSingleCoil addr a b => exact ⟨⟨addr, 0x05#8, a, b, 0, []⟩, rfl, rfl, fun _ => ⟨rfl, rfl⟩⟩
  | writeSingleRegister addr a b => exact ⟨⟨addr, 0x06#8, a, b, 0, []⟩, rfl, rfl, fun _ => ⟨rfl, rfl⟩⟩
  | writeMultipleCoils addr a b bc data => exact ⟨⟨addr, 0x0F#8, a, b, bc, data⟩, rfl, rfl, nofun⟩
  | writeMultipleRegisters addr a b bc data => exact ⟨⟨addr, 0x10#8, a, b, bc, data⟩, rfl, rfl, nofun⟩
  | _ => cases h

/-! ### Received frames -/

/-- The frames that decode, and what they decode to: the checks of R140 but for the address filter. -/
theorem decodeFrame_eq_ok_iff {f : List Byte} {i : Instr} :
    decodeFrame f = .ok i ↔
      f.length ≤ 256 ∧ crcOk f = true ∧ (supportedFc (byteAt f 1) = true → lengthOk f = true) ∧
        (decodeRequest f).instr = i := by
  by_cases hlong : 256 < f.length
  · simp [decodeFrame, hlong, Nat.not_le.mpr hlong]
  · cases hok : crcOk f with
    | false =>
      rw [decodeFrame, if_neg hlong, hok]
      split <;> simp
    | true =>
      have hshort : ¬ f.length < 4 := Nat.not_lt.mpr (four_le_length_of_crcOk hok)
      rw [decodeFrame, if_neg hlong, if_neg hshort, hok]
      cases supportedFc (byteAt f 1) <;> cases lengthOk f <;> simp [Nat.not_lt.mp hlong]

theorem encodeRequest_length_le {q : Request} (hq : q.Fits) : (encodeRequest q).length ≤ 256 := by
  cases h : isMultiple q.fc with
  | false => rw [encodeRequest_length_req8 h]; decide
  | true =>
    obtain ⟨-, hfits⟩ := hq.payload h
    rw [encodeRequest_length_reqm h]
    omega

theorem decodeFrame_encodeRequest {q : Request} (hq : q.Fits) : decodeFrame (encodeRequest q) = .ok q.instr :=
  decodeFrame_eq_ok_iff.mpr ⟨encodeRequest_length_le hq, crcOk_encodeRequest q, fun _ => lengthOk_encodeRequest hq,
    by rw [decodeRequest_encodeRequest hq]⟩

/-- Settles O25: the instruction is a Request's, whose frame decodes to the Request. -/
theorem requestsDecodeFromTheirEncoding : Obligations.RequestsDecodeFromTheirEncoding := by
  intro i f hwf hencode
  obtain ⟨q, rfl, hsupported, hunused⟩ := exists_request_of_encode hencode
  have hpayload := fun h => (payloadOk_iff _ _).mp ((wellFormed_instr_iff q).mp hwf h)
  rw [encode_instr_of_supported hsupported]
  exact decodeFrame_encodeRequest ⟨hsupported, hunused, hpayload⟩

/-! ### Frames read back -/

theorem exists_requestBody {m : List Byte} (h : m.length = 6) : ∃ addr fc a b, m = requestBody addr fc a b := by
  match m, h with
  | [x0, x1, x2, x3, x4, x5], _ => exact ⟨x0, x1, be16 x2 x3, be16 x4 x5, by simp [requestBody]⟩

theorem exists_requestBodyM {m : List Byte} {n : Nat} (h : m.length = n + 7) :
    ∃ addr fc a b bc data, m = requestBodyM addr fc a b bc data := by
  match m, h with
  | x0 :: x1 :: x2 :: x3 :: x4 :: x5 :: x6 :: data, _ =>
    exact ⟨x0, x1, be16 x2 x3, be16 x4 x5, x6, data, by simp [requestBodyM, requestBody]⟩

/-- R146, by the format of the code (R75). -/
theorem lengthOk_iff {f : List Byte} (h : supportedFc (byteAt f 1) = true) :
    lengthOk f = true ↔ f.length = if isMultiple (byteAt f 1) then 9 + (byteAt f 6).toNat else 8 := by
  cases hm : isMultiple (byteAt f 1) with
  | false => simp [lengthOk, isReq8, h, hm]
  | true =>
    simp only [lengthOk, isReq8, h, hm, Bool.not_true, Bool.and_false, Bool.false_eq_true, if_false, if_true,
      Bool.and_eq_true, decide_eq_true_eq, beq_iff_eq, and_iff_right_iff_imp]
    omega

/-- A checked frame of a supported code is the encoding of a Request: no bit of it is dropped (R75). -/
theorem exists_fits_of_checked {f : List Byte} (hcap : f.length ≤ 256) (hok : crcOk f = true)
    (hsupported : supportedFc (byteAt f 1) = true) (hlen : lengthOk f = true) :
    ∃ q : Request, q.Fits ∧ f = encodeRequest q := by
  rw [lengthOk_iff hsupported] at hlen
  obtain ⟨m, rfl⟩ : ∃ m, f = encodeFrame m := ⟨_, (encodeFrame_frameBody hok).symm⟩
  rw [encodeFrame_length] at hcap hlen
  cases hm : isMultiple (byteAt (encodeFrame m) 1) with
  | false =>
    rw [hm] at hlen
    obtain ⟨addr, fc, a, b, rfl⟩ := exists_requestBody (m := m) (Nat.succ.inj (Nat.succ.inj hlen))
    have hfc : isMultiple fc = false := hm
    exact ⟨⟨addr, fc, a, b, 0, []⟩, ⟨hsupported, fun _ => ⟨rfl, rfl⟩, fun h => by simp [hfc] at h⟩,
      (encodeRequest_req8 (q := ⟨addr, fc, a, b, 0, []⟩) hfc).symm⟩
  | true =>
    rw [hm, if_pos rfl] at hlen
    obtain ⟨addr, fc, a, b, bc, data, rfl⟩ :=
      exists_requestBodyM (m := m) (n := (byteAt (encodeFrame m) 6).toNat) (by omega)
    have hfc : isMultiple fc = true := hm
    have hbc : byteAt (encodeFrame (requestBodyM addr fc a b bc data)) 6 = bc := rfl
    rw [hbc, requestBodyM_length] at hlen
    rw [requestBodyM_length] at hcap
    refine ⟨⟨addr, fc, a, b, bc, data⟩, ⟨hsupported, fun h => by simp [hfc] at h, fun _ => ?_⟩,
      (encodeRequest_reqm (q := ⟨addr, fc, a, b, bc, data⟩) hfc).symm⟩
    dsimp only
    omega

/-- A received frame that decodes is a Request's, and decodes to the Request's instruction, or its code is
unsupported. -/
theorem decodeFrame_eq_ok {f : List Byte} {i : Instr} (h : decodeFrame f = .ok i) :
    (∃ q : Request, q.Fits ∧ f = encodeRequest q ∧ i = q.instr) ∨
      (supportedFc (byteAt f 1) = false ∧ i = .illegalFunctionRsp (byteAt f 0) (byteAt f 1)) := by
  obtain ⟨hcap, hok, hlen, rfl⟩ := decodeFrame_eq_ok_iff.mp h
  cases hsupported : supportedFc (byteAt f 1) with
  | true =>
    obtain ⟨q, hq, rfl⟩ := exists_fits_of_checked hcap hok hsupported (hlen hsupported)
    exact .inl ⟨q, hq, rfl, by rw [decodeRequest_encodeRequest hq]⟩
  | false => exact .inr ⟨rfl, instr_of_unsupported hsupported⟩

/-- Settles O26: an unsupported code's instruction is encoded as a response, and a supported one's frame is the
encoding of its Request. -/
theorem decodedRequestsEncodeToTheirFrame : Obligations.DecodedRequestsEncodeToTheirFrame := by
  intro i f g hdecode hencode
  rcases decodeFrame_eq_ok hdecode with ⟨q, hq, rfl, rfl⟩ | ⟨-, rfl⟩
  · rw [encode_instr_of_supported hq.supported] at hencode
    exact Code.request.inj hencode
  · cases hencode

/-- Settles O30: the length check is that of a supported code, so it is not made. -/
theorem unsupportedCodesAreAnswered : Obligations.UnsupportedCodesAreAnswered := by
  intro f hcap hok hcode
  have hunsupported : supportedFc (byteAt f 1) = false := by simpa [supportedFc] using hcode
  refine decodeFrame_eq_ok_iff.mpr ⟨hcap, hok, fun h => ?_, instr_of_unsupported hunsupported⟩
  rw [hunsupported] at h
  cases h

end Sys2Proof
end

section
/-! PROOFS. spec/30_encoding.md R72, R76, R79: a sent frame and the instruction it decodes to (log entry 7). -/

namespace Sys2Proof

/-! ### The decoder of sent frames -/

/-- What a checked sent frame is by its function code (R72, R76, R77): `decodeSent` after its checks. -/
def decodeSentByCode (f : List Byte) : Except DecodeError Instr :=
  if (byteAt f 1).getLsbD 7 then decodeExc f
  else if byteAt f 1 = 0x01#8 then decodeBits (.readCoilsRsp (byteAt f 0)) f
  else if byteAt f 1 = 0x02#8 then decodeBits (.readDiscreteInputsRsp (byteAt f 0)) f
  else if byteAt f 1 = 0x03#8 then decodeRegs (.readHoldingRegistersRsp (byteAt f 0)) f
  else if byteAt f 1 = 0x04#8 then decodeRegs (.readInputRegistersRsp (byteAt f 0)) f
  else if byteAt f 1 = 0x05#8 then decodeEcho (.writeSingleCoilRsp (byteAt f 0)) f
  else if byteAt f 1 = 0x06#8 then decodeEcho (.writeSingleRegisterRsp (byteAt f 0)) f
  else if byteAt f 1 = 0x0F#8 then decodeEcho (.writeMultipleCoilsRsp (byteAt f 0)) f
  else if byteAt f 1 = 0x10#8 then decodeEcho (.writeMultipleRegistersRsp (byteAt f 0)) f
  else .error .function

theorem decodeSent_eq (f : List Byte) : decodeSent f =
    if 256 < f.length then .error .overrun
    else if f.length < 4 then .error .short
    else if !crcOk f then .error .crc
    else decodeSentByCode f := rfl

theorem decodeSentByCode_of_decodeSent {f : List Byte} {i : Instr} (h : decodeSent f = .ok i) :
    decodeSentByCode f = .ok i := by
  rw [decodeSent_eq] at h
  split at h; · cases h
  split at h; · cases h
  split at h; · cases h
  exact h

/-- A body that fits the transmit store makes a frame that passes the checks (R170, R181). -/
theorem decodeSent_encodeFrame {body : List Byte} (h2 : 2 ≤ body.length) (hcap : body.length ≤ 253) :
    decodeSent (encodeFrame body) = decodeSentByCode (encodeFrame body) := by
  have hlen := encodeFrame_length body
  rw [decodeSent_eq, if_neg (by omega), if_neg (by omega), if_neg (by simp [crcOk_encodeFrame h2])]

/-! ### The rows of the table -/

theorem decodeSentByCode_readCoilsRsp {f : List Byte} (h : byteAt f 1 = 0x01#8) :
    decodeSentByCode f = decodeBits (.readCoilsRsp (byteAt f 0)) f := by simp [decodeSentByCode, h]
theorem decodeSentByCode_readDiscreteInputsRsp {f : List Byte} (h : byteAt f 1 = 0x02#8) :
    decodeSentByCode f = decodeBits (.readDiscreteInputsRsp (byteAt f 0)) f := by simp [decodeSentByCode, h]
theorem decodeSentByCode_readHoldingRegistersRsp {f : List Byte} (h : byteAt f 1 = 0x03#8) :
    decodeSentByCode f = decodeRegs (.readHoldingRegistersRsp (byteAt f 0)) f := by simp [decodeSentByCode, h]
theorem decodeSentByCode_readInputRegistersRsp {f : List Byte} (h : byteAt f 1 = 0x04#8) :
    decodeSentByCode f = decodeRegs (.readInputRegistersRsp (byteAt f 0)) f := by simp [decodeSentByCode, h]
theorem decodeSentByCode_writeSingleCoilRsp {f : List Byte} (h : byteAt f 1 = 0x05#8) :
    decodeSentByCode f = decodeEcho (.writeSingleCoilRsp (byteAt f 0)) f := by simp [decodeSentByCode, h]
theorem decodeSentByCode_writeSingleRegisterRsp {f : List Byte} (h : byteAt f 1 = 0x06#8) :
    decodeSentByCode f = decodeEcho (.writeSingleRegisterRsp (byteAt f 0)) f := by simp [decodeSentByCode, h]
theorem decodeSentByCode_writeMultipleCoilsRsp {f : List Byte} (h : byteAt f 1 = 0x0F#8) :
    decodeSentByCode f = decodeEcho (.writeMultipleCoilsRsp (byteAt f 0)) f := by simp [decodeSentByCode, h]
theorem decodeSentByCode_writeMultipleRegistersRsp {f : List Byte} (h : byteAt f 1 = 0x10#8) :
    decodeSentByCode f = decodeEcho (.writeMultipleRegistersRsp (byteAt f 0)) f := by simp [decodeSentByCode, h]

/-! ### The formats -/

theorem decodeBits_eq_ok_iff {mk : List Bool → Instr} {f : List Byte} {i : Instr} :
    decodeBits mk f = .ok i ↔
      (f.length = 5 + (byteAt f 2).toNat ∧ 1 ≤ (byteAt f 2).toNat ∧ (byteAt f 2).toNat ≤ 250) ∧
        mk (unpackBits ((f.drop 3).take (byteAt f 2).toNat) (8 * (byteAt f 2).toNat)) = i := by
  unfold decodeBits
  split <;> simp_all [and_assoc]

theorem decodeRegs_eq_ok_iff {mk : List Word → Instr} {f : List Byte} {i : Instr} :
    decodeRegs mk f = .ok i ↔
      (f.length = 5 + (byteAt f 2).toNat ∧ (byteAt f 2).toNat % 2 = 0 ∧ 2 ≤ (byteAt f 2).toNat ∧
        (byteAt f 2).toNat ≤ 250) ∧ mk (unpackWords ((f.drop 3).take (byteAt f 2).toNat)) = i := by
  unfold decodeRegs
  split <;> simp_all [and_assoc]

theorem decodeEcho_eq_ok_iff {mk : Word → Word → Instr} {f : List Byte} {i : Instr} :
    decodeEcho mk f = .ok i ↔
      f.length = 8 ∧ mk (be16 (byteAt f 2) (byteAt f 3)) (be16 (byteAt f 4) (byteAt f 5)) = i := by
  unfold decodeEcho
  split <;> simp_all

/-! ### What is decoded is well formed -/

theorem unpackWords_length (d : List Byte) : (unpackWords d).length = d.length / 2 := by
  induction d using unpackWords.induct with
  | case1 x y d ih => simp only [unpackWords, List.length_cons, ih]; omega
  | case2 d hshort =>
    match d, hshort with
    | [], _ => rfl
    | [x], _ => simp [unpackWords]
    | x :: y :: d, hshort => exact absurd rfl (hshort x y d)

theorem wellFormed_of_decodeBits {mk : List Bool → Instr} {f : List Byte} {i : Instr}
    (hmk : ∀ v, (mk v).wellFormed = bitCountOk v) (h : decodeBits mk f = .ok i) : i.wellFormed = true := by
  obtain ⟨⟨-, hone, hcap⟩, rfl⟩ := decodeBits_eq_ok_iff.mp h
  rw [hmk, bitCountOk_iff, unpackBits_length]
  omega

theorem wellFormed_of_decodeRegs {mk : List Word → Instr} {f : List Byte} {i : Instr}
    (hmk : ∀ w, (mk w).wellFormed = regCountOk w) (h : decodeRegs mk f = .ok i) : i.wellFormed = true := by
  obtain ⟨⟨hlen, -, htwo, hcap⟩, rfl⟩ := decodeRegs_eq_ok_iff.mp h
  rw [hmk, regCountOk_iff, unpackWords_length, List.length_take, List.length_drop]
  omega

theorem wellFormed_of_decodeEcho {mk : Word → Word → Instr} {f : List Byte} {i : Instr}
    (hmk : ∀ a b, (mk a b).wellFormed = true) (h : decodeEcho mk f = .ok i) : i.wellFormed = true := by
  obtain ⟨-, rfl⟩ := decodeEcho_eq_ok_iff.mp h
  exact hmk _ _

theorem wellFormed_of_decodeExc {f : List Byte} {i : Instr} (h : decodeExc f = .ok i) : i.wellFormed = true := by
  unfold decodeExc at h
  split at h
  · cases h
  · split at h
    · split at h
      · cases h
        simp_all [Instr.wellFormed]
      · cases h
    · split at h
      · cases h
        simp_all [Instr.wellFormed]
      · cases h

theorem wellFormed_of_decodeSentByCode {f : List Byte} {i : Instr} (h : decodeSentByCode f = .ok i) :
    i.wellFormed = true := by
  unfold decodeSentByCode at h
  split at h; · exact wellFormed_of_decodeExc h
  split at h; · exact wellFormed_of_decodeBits (fun _ => rfl) h
  split at h; · exact wellFormed_of_decodeBits (fun _ => rfl) h
  split at h; · exact wellFormed_of_decodeRegs (fun _ => rfl) h
  split at h; · exact wellFormed_of_decodeRegs (fun _ => rfl) h
  split at h; · exact wellFormed_of_decodeEcho (fun _ _ => rfl) h
  split at h; · exact wellFormed_of_decodeEcho (fun _ _ => rfl) h
  split at h; · exact wellFormed_of_decodeEcho (fun _ _ => rfl) h
  split at h; · exact wellFormed_of_decodeEcho (fun _ _ => rfl) h
  cases h

theorem wellFormed_of_decodeFrame {f : List Byte} {i : Instr} (h : decodeFrame f = .ok i) : i.wellFormed = true := by
  rcases decodeFrame_eq_ok h with ⟨q, hq, -, rfl⟩ | ⟨hunsupported, rfl⟩
  · exact (wellFormed_instr_iff q).mpr fun hm => (payloadOk_iff _ _).mpr (hq.payload hm)
  · simp [Instr.wellFormed, hunsupported]

theorem wellFormed_decodeControl (u : CrcUnit) (crcInit crcEn : Bool) (din : Byte) :
    (decodeControl u crcInit crcEn din).wellFormed = true := by
  cases crcInit <;> cases crcEn <;> rfl

/-- Settles O27: by the place where the bits stand. -/
theorem decodedInstructionsAreWellFormed : Obligations.DecodedInstructionsAreWellFormed := by
  intro c i h
  cases c with
  | request f => exact wellFormed_of_decodeFrame h
  | response f => exact wellFormed_of_decodeSentByCode (decodeSentByCode_of_decodeSent h)
  | crcControl u crcInit crcEn din =>
    cases h
    exact wellFormed_decodeControl u crcInit crcEn din

/-! ### Responses decode from their frames -/

/-- A read response's frame: three head bytes, of which the last counts the data bytes, then these and the CRC (R76). -/
theorem encodeFrame_read {addr fc n : Byte} {d : List Byte} (hn : n.toNat = d.length) :
    (encodeFrame ([addr, fc, n] ++ d)).length = 5 + n.toNat ∧
      ((encodeFrame ([addr, fc, n] ++ d)).drop 3).take n.toNat = d := by
  constructor
  · rw [encodeFrame_length, List.length_append, ← hn]
    simp only [List.length_cons, List.length_nil]
    omega
  · rw [hn]
    exact List.take_left

theorem decodeRegs_regsBody (mk : List Word → Instr) (addr fc : Byte) {w : List Word} (hw : regCountOk w = true) :
    decodeRegs mk (encodeFrame (regsBody addr fc w)) = .ok (mk w) := by
  obtain ⟨hone, hcap⟩ := (regCountOk_iff w).mp hw
  have hcount : (BitVec.ofNat 8 (2 * w.length)).toNat = 2 * w.length := by
    rw [BitVec.toNat_ofNat]; omega
  obtain ⟨hlen, hdata⟩ := encodeFrame_read (addr := addr) (fc := fc)
    (hcount.trans (wordBytes_length w).symm)
  have hbyte : byteAt (encodeFrame (regsBody addr fc w)) 2 = BitVec.ofNat 8 (2 * w.length) := rfl
  refine decodeRegs_eq_ok_iff.mpr ⟨?_, ?_⟩
  · rw [hbyte]
    exact ⟨hlen, by omega⟩
  · rw [hbyte, regsBody, hdata, unpackWords_wordBytes]

theorem decodeEcho_echoBody (mk : Word → Word → Instr) (addr fc : Byte) (a b : Word) :
    decodeEcho mk (encodeFrame (echoBody addr fc a b)) = .ok (mk a b) :=
  decodeEcho_eq_ok_iff.mpr ⟨rfl,
    congrArg₂ mk (be16_hi_lo a) (be16_hi_lo b)⟩

/-- R79: bit 7 marks an exception, and the bits below it are the request's code. -/
theorem exceptionFc_bits {fc : Byte} (h : fc.toNat < 128) :
    (fc ||| 0x80#8).getLsbD 7 = true ∧ (fc ||| 0x80#8) &&& 0x7F#8 = fc := by
  revert fc
  decide

theorem toNat_lt_of_supportedFc {fc : Byte} (h : supportedFc fc = true) : fc.toNat < 128 := by
  rcases (supportedFc_iff fc).mp h with rfl | rfl | rfl | rfl | rfl | rfl | rfl | rfl <;> decide

/-- An exception's frame, with a code below 0x80: which exception it is depends on whether the code is supported. -/
theorem decodeSentByCode_excBody (addr code : Byte) {fc : Byte} (h : fc.toNat < 128) :
    decodeSentByCode (encodeFrame (excBody addr fc code)) =
      if supportedFc fc then
        if legalException code then .ok (.exceptionRsp addr fc code) else .error .exceptionCode
      else if code = 0x01#8 then .ok (.illegalFunctionRsp addr fc) else .error .exceptionCode := by
  obtain ⟨hbit, hfc⟩ := exceptionFc_bits h
  have hbyte : byteAt (encodeFrame (excBody addr fc code)) 1 = fc ||| 0x80#8 := rfl
  have hcode : byteAt (encodeFrame (excBody addr fc code)) 2 = code := rfl
  have haddr : byteAt (encodeFrame (excBody addr fc code)) 0 = addr := rfl
  rw [decodeSentByCode, hbyte, if_pos hbit, decodeExc, hbyte, hfc, hcode, haddr, if_neg (by simp)]

theorem decode_encodeFrame {body : List Byte} (h2 : 2 ≤ body.length) (hcap : body.length ≤ 253) :
    decode (.response (encodeFrame body)) = decodeSentByCode (encodeFrame body) :=
  decodeSent_encodeFrame h2 hcap

/-- Settles O28: each format's frame is read back field by field. -/
theorem responsesDecodeFromTheirFrames : Obligations.ResponsesDecodeFromTheirFrames := by
  intro addr fc code a b w i hi hwf
  have hregs (c : Byte) (hw : regCountOk w = true) : (regsBody addr c w).length ≤ 253 := by
    obtain ⟨-, hcap⟩ := (regCountOk_iff w).mp hw
    rw [regsBody_length]
    omega
  simp only [List.mem_cons, List.not_mem_nil, or_false] at hi
  rcases hi with (rfl | rfl | rfl | rfl | rfl | rfl | rfl) | ⟨rfl, hfc⟩
  · rw [encode, decode_encodeFrame (by simp; omega) (hregs 0x03#8 hwf), decodeSentByCode_readHoldingRegistersRsp rfl]
    exact decodeRegs_regsBody _ addr 0x03#8 hwf
  · rw [encode, decode_encodeFrame (by simp; omega) (hregs 0x04#8 hwf), decodeSentByCode_readInputRegistersRsp rfl]
    exact decodeRegs_regsBody _ addr 0x04#8 hwf
  · rw [encode, decode_encodeFrame (by simp) (by simp), decodeSentByCode_writeSingleCoilRsp rfl]
    exact decodeEcho_echoBody _ addr 0x05#8 a b
  · rw [encode, decode_encodeFrame (by simp) (by simp), decodeSentByCode_writeSingleRegisterRsp rfl]
    exact decodeEcho_echoBody _ addr 0x06#8 a b
  · rw [encode, decode_encodeFrame (by simp) (by simp), decodeSentByCode_writeMultipleCoilsRsp rfl]
    exact decodeEcho_echoBody _ addr 0x0F#8 a b
  · rw [encode, decode_encodeFrame (by simp) (by simp), decodeSentByCode_writeMultipleRegistersRsp rfl]
    exact decodeEcho_echoBody _ addr 0x10#8 a b
  · simp only [Instr.wellFormed, Bool.and_eq_true] at hwf
    obtain ⟨hsupported, hlegal⟩ := hwf
    rw [encode, decode_encodeFrame (by simp) (by simp),
      decodeSentByCode_excBody addr code (toNat_lt_of_supportedFc hsupported), if_pos hsupported, if_pos hlegal]
  · simp only [Instr.wellFormed, Bool.not_eq_true'] at hwf
    rw [encode, decode_encodeFrame (by simp) (by simp), decodeSentByCode_excBody addr 0x01#8 hfc,
      if_neg (by simp [hwf]), if_pos rfl]

/-! ### Bit reads -/

/-- Reading whole bytes of packed bits gives the bits, filled up with 0 (R180, R184). -/
theorem unpackBits_packBits_whole (v : List Bool) :
    unpackBits (packBits v) (8 * byteCount v.length) =
      v ++ List.replicate (8 * byteCount v.length - v.length) false := by
  have hroom : v.length ≤ 8 * byteCount v.length := by unfold byteCount; omega
  refine List.ext_getElem (by simp [hroom]) fun i hi hpad => ?_
  have hi' : i < 8 * byteCount v.length := by simpa using hi
  have hbyte : i / 8 < byteCount v.length := by omega
  rw [← List.getD_eq_getElem _ false hi, ← List.getD_eq_getElem _ false hpad, unpackBits_getD _ hi',
    byteAt_packBits hbyte, packByte_getLsbD _ _ (Nat.mod_lt _ (by decide)), Nat.div_add_mod]
  rcases Nat.lt_or_ge i v.length with hin | hout
  · rw [List.getD_append _ _ _ _ hin]
  · rw [List.getD_append_right _ _ _ _ hout, List.getD_eq_default _ _ hout]
    exact (List.getD_replicate false (by omega)).symm

theorem decodeBits_bitsBody (mk : List Bool → Instr) (addr fc : Byte) {v : List Bool} (hv : bitCountOk v = true) :
    decodeBits mk (encodeFrame (bitsBody addr fc v)) =
      .ok (mk (v ++ List.replicate (8 * byteCount v.length - v.length) false)) := by
  obtain ⟨hone, hcap⟩ := (bitCountOk_iff v).mp hv
  have hbytes : 1 ≤ byteCount v.length ∧ byteCount v.length ≤ 250 := by unfold byteCount; omega
  have hcount : (BitVec.ofNat 8 (byteCount v.length)).toNat = byteCount v.length := by
    rw [BitVec.toNat_ofNat]; omega
  obtain ⟨hlen, hdata⟩ := encodeFrame_read (addr := addr) (fc := fc) (hcount.trans (packBits_length v).symm)
  have hbyte : byteAt (encodeFrame (bitsBody addr fc v)) 2 = BitVec.ofNat 8 (byteCount v.length) := rfl
  refine decodeBits_eq_ok_iff.mpr ⟨?_, ?_⟩
  · rw [hbyte]
    exact ⟨hlen, by omega⟩
  · rw [hbyte, bitsBody, hdata, hcount, unpackBits_packBits_whole]

/-- Settles O29: the byte count gives whole bytes, in which the padding reads as 0. -/
theorem bitReadsDecodeToWholeBytes : Obligations.BitReadsDecodeToWholeBytes := by
  rintro addr v z hone hcap rfl
  have hv : bitCountOk v = true := (bitCountOk_iff v).mpr ⟨hone, hcap⟩
  have hbody (fc : Byte) : 2 ≤ (bitsBody addr fc v).length ∧ (bitsBody addr fc v).length ≤ 253 := by
    rw [bitsBody_length, byteCount]
    omega
  obtain ⟨hcoils, hcoilsCap⟩ := hbody 0x01#8
  obtain ⟨hinputs, hinputsCap⟩ := hbody 0x02#8
  constructor
  · rw [encode, decode_encodeFrame hcoils hcoilsCap, decodeSentByCode_readCoilsRsp rfl]
    exact decodeBits_bitsBody _ addr 0x01#8 hv
  · rw [encode, decode_encodeFrame hinputs hinputsCap, decodeSentByCode_readDiscreteInputsRsp rfl]
    exact decodeBits_bitsBody _ addr 0x02#8 hv

/-! ### Words of the spec -/

/-- Settles O31: each word is the encoding of its instruction, CRC included, and decodes to it. -/
theorem writtenOutWordsDecode : Obligations.WrittenOutWordsDecode := by
  refine ⟨?_, ?_, ?_, rfl⟩ <;> decide +kernel

end Sys2Proof
end

section
/-! PROOFS. spec/42_request_decode.md R151 to R159: a request goes to the dispatcher, which sees it as received. -/

namespace Sys2Proof.Machine

/-! ### The meaning of a request -/

/-- R203: every instruction that is encoded as a received frame only enters DISPATCHING. -/
theorem exec_of_encode_request {i : Instr} {f : List Byte} (h : encode i = .request f) (s : State) :
    exec i s = .next s.presentRequest := by
  obtain ⟨q, rfl, hsupported, -⟩ := exists_request_of_encode h
  exact exec_request hsupported s

/-- Settles O6: an instruction with a request's encoding is the instruction of a Request with a supported code. -/
theorem requestsOnlyEnterDispatching : Obligations.RequestsOnlyEnterDispatching := fun _ _ s h =>
  exec_of_encode_request h s

/-! ### The ports of the dispatcher -/

/-- R150: the fields of an encoded REQM request are read back whatever the length of its payload. -/
theorem decodeRequest_encodeFrame_reqm (addr : Byte) {fc : Byte} (a b : Word) {bc : Byte} {data : List Byte}
    (hfc : isMultiple fc = true) (hbc : bc.toNat = data.length) :
    decodeRequest (encodeFrame (requestBodyM addr fc a b bc data)) = ⟨addr, fc, a, b, bc, data⟩ := by
  have hdata : ((encodeFrame (requestBodyM addr fc a b bc data)).drop 7).take bc.toNat = data := by
    rw [hbc]
    exact List.take_left
  have hfields : decodeRequest (encodeFrame (requestBodyM addr fc a b bc data)) =
      ⟨addr, fc, be16 (hi a) (lo a), be16 (hi b) (lo b), if isMultiple fc then bc else 0,
        if isMultiple fc then ((encodeFrame (requestBodyM addr fc a b bc data)).drop 7).take bc.toNat else []⟩ := rfl
  rw [hfields, be16_hi_lo, be16_hi_lo, if_pos hfc, if_pos hfc, hdata]

/-- Payload byte `k` stands behind the seven head bytes of a REQM frame (R75). -/
theorem byteAt_encodeFrame_reqm (addr fc : Byte) (a b : Word) (bc : Byte) {data : List Byte} {k : Nat}
    (h : k < data.length) : byteAt (encodeFrame (requestBodyM addr fc a b bc data)) (7 + k) = byteAt data k := by
  rw [byteAt_encodeFrame (by rw [requestBodyM_length]; omega), Nat.add_comm]
  rfl

/-- R32: the read port shows the held frame from byte 7 on, below the byte count. -/
theorem State.reqDataByte_of_lt {s : State} {k : Byte} (hvalid : s.reqValid = true)
    (hk : k.toNat < s.request.bc.toNat) : s.reqDataByte k = s.rxByte (7 + k.toNat) := by
  simp [State.reqDataByte, hvalid, hk]

theorem State.presentRequest_outputs_reqValid (s : State) : s.presentRequest.outputs.reqValid = true := rfl

theorem State.presentRequest_outputs_req (s : State) : s.presentRequest.outputs.req = decodeRequest s.rxFrame := rfl

/-- Settles O4: the request port decodes the held frame, which is the encoding of the Request. -/
theorem fixedRequestsReachTheDispatcher : Obligations.FixedRequestsReachTheDispatcher := by
  intro addr a b s fc i hi hframe
  have hrow : supportedFc fc = true ∧ isMultiple fc = false ∧ (⟨addr, fc, a, b, 0, []⟩ : Request).instr = i := by
    simp only [List.mem_cons, Prod.mk.injEq, List.not_mem_nil, or_false] at hi
    rcases hi with ⟨rfl, rfl⟩ | ⟨rfl, rfl⟩ | ⟨rfl, rfl⟩ | ⟨rfl, rfl⟩ | ⟨rfl, rfl⟩ | ⟨rfl, rfl⟩ <;> exact ⟨rfl, rfl, rfl⟩
  obtain ⟨hsupported, hreq8, rfl⟩ := hrow
  have hfits : (⟨addr, fc, a, b, 0, []⟩ : Request).Fits :=
    ⟨hsupported, fun _ => ⟨rfl, rfl⟩, fun h => absurd (hreq8.symm.trans h) Bool.false_ne_true⟩
  refine ⟨_, exec_request (q := ⟨addr, fc, a, b, 0, []⟩) hsupported s, rfl, s.presentRequest_outputs_reqValid, ?_⟩
  have hencode : s.rxFrame = encodeRequest ⟨addr, fc, a, b, 0, []⟩ := by
    rw [hframe, encodeRequest_req8 (q := ⟨addr, fc, a, b, 0, []⟩) hreq8]
    rfl
  rw [s.presentRequest_outputs_req, hencode, decodeRequest_encodeRequest hfits]

/-- Settles O5: as for the fixed requests; the read port shows the held frame from its payload on. -/
theorem multipleRequestsReachTheDispatcher : Obligations.MultipleRequestsReachTheDispatcher := by
  intro addr a b bc data s fc i hi hbc hframe
  have hrow : supportedFc fc = true ∧ isMultiple fc = true ∧ (⟨addr, fc, a, b, bc, data⟩ : Request).instr = i := by
    simp only [List.mem_cons, Prod.mk.injEq, List.not_mem_nil, or_false] at hi
    rcases hi with ⟨rfl, rfl⟩ | ⟨rfl, rfl⟩ <;> exact ⟨rfl, rfl, rfl⟩
  obtain ⟨hsupported, hreqm, rfl⟩ := hrow
  have hreq : s.presentRequest.outputs.req = ⟨addr, fc, a, b, bc, data⟩ := by
    rw [s.presentRequest_outputs_req, hframe]
    exact decodeRequest_encodeFrame_reqm addr a b hreqm hbc
  refine ⟨_, exec_request (q := ⟨addr, fc, a, b, bc, data⟩) hsupported s, rfl, s.presentRequest_outputs_reqValid, hreq,
    fun k hk => ?_⟩
  have hlen : s.rxLen = 9 + data.length := by
    rw [← s.rxFrame_length, hframe, encodeFrame_length]
    simp only [List.length_append, List.length_cons, List.length_nil]
    omega
  have hport : s.presentRequest.reqDataByte k = s.rxByte (7 + k.toNat) := by
    refine State.reqDataByte_of_lt rfl ?_
    rwa [show s.presentRequest.request = ⟨addr, fc, a, b, bc, data⟩ from hreq, hbc]
  refine hport.trans ?_
  rw [← s.byteAt_rxFrame (by omega), hframe]
  exact byteAt_encodeFrame_reqm addr fc a b bc hk

end Sys2Proof.Machine
end

section
/-! PROOFS. spec/43_response_encode.md R171 to R179, R182, R186: a response loads its body, or is refused (R205). -/

namespace Sys2Proof.Machine

/-! ### Loading a body -/

/-- R186: loading a body leaves everything outside the transmit side as it was. -/
theorem State.loaded_loadTx (body : List Byte) (s : State) : s.loaded (s.loadTx body) body.length := by
  refine ⟨rfl, rfl, rfl, rfl, fun a ha => ?_, rfl, rfl, rfl, rfl, rfl, rfl, rfl, rfl, rfl, rfl, rfl, fun _ => rfl⟩
  rw [State.txBodyByte_loadTx, if_neg (Nat.not_lt.mpr ha)]

theorem State.txBodyByte_loadTx_of_lt {body : List Byte} {k : Nat} (h : k < body.length) (s : State) :
    (s.loadTx body).txBodyByte k = byteAt body k := by
  rw [State.txBodyByte_loadTx, if_pos h]

/-! ### Bodies -/

/-- Data byte `k` of an RSP_BITS body (R76, R180). -/
theorem byteAt_bitsBody (addr fc : Byte) {v : List Bool} {k : Nat} (h : k < byteCount v.length) :
    byteAt (bitsBody addr fc v) (3 + k) = packByte v k := by
  rw [Nat.add_comm, ← byteAt_packBits h]
  rfl

/-- A bit read response within its bounds (R171, R172), whichever of the two it is. -/
theorem State.loadTx_bitsBody (addr fc : Byte) {v : List Bool} (hcap : v.length ≤ 2000) (s : State) :
    let t := s.loadTx (bitsBody addr fc v)
    s.loaded t (3 + byteCount v.length) ∧ t.ev = s.ev ∧ t.txBodyByte 0 = addr ∧ t.txBodyByte 1 = fc ∧
      (t.txBodyByte 2).toNat = byteCount v.length ∧
      ∀ k j, k < byteCount v.length → j < 8 → (t.txBodyByte (3 + k)).getLsbD j = v.getD (8 * k + j) false := by
  have hlen := bitsBody_length addr fc v
  have hbytes : byteCount v.length ≤ 250 := by unfold byteCount; omega
  refine ⟨hlen ▸ s.loaded_loadTx _, rfl, ?_, ?_, ?_, fun k j hk hj => ?_⟩
  · rw [State.txBodyByte_loadTx_of_lt (by omega)]; rfl
  · rw [State.txBodyByte_loadTx_of_lt (by omega)]; rfl
  · rw [State.txBodyByte_loadTx_of_lt (by omega)]
    exact Nat.mod_eq_of_lt (by omega)
  · rw [State.txBodyByte_loadTx_of_lt (by omega), byteAt_bitsBody addr fc hk, packByte_getLsbD v k hj]

/-- A register read response within its bounds (R173, R174), whichever of the two it is. -/
theorem State.loadTx_regsBody (addr fc : Byte) {w : List Word} (hcap : w.length ≤ 125) (s : State) :
    let t := s.loadTx (regsBody addr fc w)
    s.loaded t (3 + 2 * w.length) ∧ t.ev = s.ev ∧ t.txBodyByte 0 = addr ∧ t.txBodyByte 1 = fc ∧
      (t.txBodyByte 2).toNat = 2 * w.length ∧
      ∀ k, k < w.length → t.txBodyByte (3 + 2 * k) = hi (w.getD k 0) ∧ t.txBodyByte (4 + 2 * k) = lo (w.getD k 0) := by
  have hlen := regsBody_length addr fc w
  obtain ⟨-, -, -, -, hregs, -, -⟩ := wordsAreBigEndianAndTheCrcLittle
  refine ⟨hlen ▸ s.loaded_loadTx _, rfl, ?_, ?_, ?_, fun k hk => ?_⟩
  · rw [State.txBodyByte_loadTx_of_lt (by omega)]; rfl
  · rw [State.txBodyByte_loadTx_of_lt (by omega)]; rfl
  · rw [State.txBodyByte_loadTx_of_lt (by omega)]
    exact Nat.mod_eq_of_lt (by omega)
  · rw [State.txBodyByte_loadTx_of_lt (by omega), State.txBodyByte_loadTx_of_lt (by omega)]
    exact hregs addr fc w k hk

/-- Settles O7: with 1 to 2000 bits either response loads its `bitsBody`. -/
theorem bitReadsLoadTheirBody : Obligations.BitReadsLoadTheirBody := by
  intro addr v s fc i hi hone hcap
  have hexec : exec i s = .next (s.respondBits addr fc v) := by
    simp only [List.mem_cons, Prod.mk.injEq, List.not_mem_nil, or_false] at hi
    rcases hi with ⟨rfl, rfl⟩ | ⟨rfl, rfl⟩ <;> rfl
  rw [State.respondBits, if_pos ((bitCountOk_iff v).mpr ⟨hone, hcap⟩)] at hexec
  exact ⟨_, hexec, State.loadTx_bitsBody addr fc hcap s⟩

/-- Settles O8: with 1 to 125 registers either response loads its `regsBody`. -/
theorem registerReadsLoadTheirBody : Obligations.RegisterReadsLoadTheirBody := by
  intro addr w s fc i hi hone hcap
  have hexec : exec i s = .next (s.respondRegs addr fc w) := by
    simp only [List.mem_cons, Prod.mk.injEq, List.not_mem_nil, or_false] at hi
    rcases hi with ⟨rfl, rfl⟩ | ⟨rfl, rfl⟩ <;> rfl
  rw [State.respondRegs, if_pos ((regCountOk_iff w).mpr ⟨hone, hcap⟩)] at hexec
  exact ⟨_, hexec, State.loadTx_regsBody addr fc hcap s⟩

/-- Settles O9: each write response loads its `echoBody`. -/
theorem writesLoadTheirEcho : Obligations.WritesLoadTheirEcho := by
  intro addr a b s fc i hi
  have hexec : exec i s = .next (s.loadTx (echoBody addr fc a b)) := by
    simp only [List.mem_cons, Prod.mk.injEq, List.not_mem_nil, or_false] at hi
    rcases hi with ⟨rfl, rfl⟩ | ⟨rfl, rfl⟩ | ⟨rfl, rfl⟩ | ⟨rfl, rfl⟩ <;> rfl
  exact ⟨_, hexec, s.loaded_loadTx _, rfl, s.txPrefix_loadTx (echoBody addr fc a b)⟩

/-! ### Exceptions and refusals -/

theorem exec_exceptionRsp (addr fc code : Byte) (s : State) :
    exec (.exceptionRsp addr fc code) s =
      .next (if legalException code then s.loadTx (excBody addr fc code) else s.refuseResponse) := rfl

/-- Settles O10: a legal code's response loads its `excBody`. -/
theorem exceptionLoadsItsBody : Obligations.ExceptionLoadsItsBody := by
  intro addr fc code s hcode
  have hexec := exec_exceptionRsp addr fc code s
  rw [if_pos ((legalException_iff code).mpr hcode)] at hexec
  exact ⟨_, hexec, s.loaded_loadTx _, rfl, s.txPrefix_loadTx (excBody addr fc code)⟩

/-- Settles O11: the event is emitted before the body is loaded, which leaves `ev` as it is. -/
theorem illegalFunctionLoadsItsBody : Obligations.IllegalFunctionLoadsItsBody := fun addr fc s =>
  ⟨_, exec_illegalFunctionRsp addr fc s, (s.emit .illFunc).loaded_loadTx _, rfl,
    (s.emit .illFunc).txPrefix_loadTx (excBody addr fc 0x01#8)⟩

/-- R205: a refusal emits EV_RESPERR and ends the frame. -/
theorem State.refuseResponse_eq (s : State) :
    s.refuseResponse = { s with ev := s.ev ||| 0x80#8, fsm := if s.stopPending then .stopped else .idle } := rfl

/-- Settles O12: out of its bounds each response is `refuseResponse`. -/
theorem unfitResponsesAreRefused : Obligations.UnfitResponsesAreRefused := by
  rintro addr fc code v w s _ rfl
  rw [← s.refuseResponse_eq]
  refine ⟨fun hv => ?bits, fun hw => ?regs, fun hcode => ?exception⟩
  case bits =>
    have hunfit : ¬ bitCountOk v = true := by rw [bitCountOk_iff]; omega
    have hrefused (c : Byte) : s.respondBits addr c v = s.refuseResponse := if_neg hunfit
    exact ⟨congrArg Host.Outcome.next (hrefused 0x01#8), congrArg Host.Outcome.next (hrefused 0x02#8)⟩
  case regs =>
    have hunfit : ¬ regCountOk w = true := by rw [regCountOk_iff]; omega
    have hrefused (c : Byte) : s.respondRegs addr c w = s.refuseResponse := if_neg hunfit
    exact ⟨congrArg Host.Outcome.next (hrefused 0x03#8), congrArg Host.Outcome.next (hrefused 0x04#8)⟩
  case exception =>
    have hillegal : ¬ legalException code = true := by rw [legalException_iff]; tauto
    rw [exec_exceptionRsp, if_neg hillegal]

end Sys2Proof.Machine
end

section
/-! PROOFS. spec/10_state.md R24, R26 and spec/70_reset_and_hazards.md R260: what the common updates and a reset cycle
do. -/

namespace Sys2Proof.Machine

/-! ### Reset and configuration -/

/-- Settles O34: `resetState` takes only the model's own fields from the state, and the configuration from the inputs. -/
theorem resetStateIsAResetCycle : Obligations.ResetStateIsAResetCycle := by
  intro s hrst hunit hpromisc
  refine ⟨_, step_of_reset hrst, ?_⟩
  rw [resetState, hunit, hpromisc]
  rfl

/-- R24, R26: no branch writes the configuration, the silence count or the model's own fields; the common updates and
a reset cycle do. -/
structure State.SameCommon (s t : State) : Prop where
  cfgUnitId : t.cfgUnitId = s.cfgUnitId
  cfgPromisc : t.cfgPromisc = s.cfgPromisc
  gapCnt : t.gapCnt = s.gapCnt
  inputs : t.inputs = s.inputs
  cycles : t.cycles = s.cycles
  epoch : t.epoch = s.epoch

theorem appendState_sameCommon (b : Byte) (s : State) : s.SameCommon (appendState b s) := by
  unfold appendState
  split <;> exact ⟨rfl, rfl, rfl, rfl, rfl, rfl⟩

theorem branchState_sameCommon (t35 : Nat) (i : Inputs) (s : State) : s.SameCommon (branchState t35 i s) := by
  unfold branchState
  cases s.fsm with
  | idle =>
    dsimp only
    split
    · exact ⟨rfl, rfl, rfl, rfl, rfl, rfl⟩
    · split <;> exact ⟨rfl, rfl, rfl, rfl, rfl, rfl⟩
  | receiving =>
    have happend := appendState_sameCommon i.rxData s
    dsimp only
    split
    · exact ⟨rfl, rfl, rfl, rfl, rfl, rfl⟩
    · split
      · split
        · exact { happend with }
        · exact happend
      · split <;> exact ⟨rfl, rfl, rfl, rfl, rfl, rfl⟩
  | validating => cases validate s <;> exact ⟨rfl, rfl, rfl, rfl, rfl, rfl⟩
  | dispatching =>
    dsimp only
    split
    · cases encodeResponse s.request i.resp <;> exact ⟨rfl, rfl, rfl, rfl, rfl, rfl⟩
    · exact ⟨rfl, rfl, rfl, rfl, rfl, rfl⟩
  | responding =>
    dsimp only
    split
    · split <;> exact ⟨rfl, rfl, rfl, rfl, rfl, rfl⟩
    · exact ⟨rfl, rfl, rfl, rfl, rfl, rfl⟩
  | stopped => exact ⟨rfl, rfl, rfl, rfl, rfl, rfl⟩

/-- A step without reset is its branch, on the state the common updates give. -/
theorem step_of_running {s t : State} (h : step s = .next t) (hrst : s.input.rst = false) :
    t = branchState Config.t35Cycles s.input (s.popInput.beginCycle Config.t35Cycles s.input) := by
  rw [step_next h, nextState_of_running _ hrst]

/-- A step without reset leaves these fields as the common updates give them. -/
theorem step_sameCommon {s t : State} (h : step s = .next t) (hrst : s.input.rst = false) :
    (s.popInput.beginCycle Config.t35Cycles s.input).SameCommon t :=
  step_of_running h hrst ▸ branchState_sameCommon _ _ _

/-- Settles O35: a reset cycle samples the two inputs, and neither the common updates nor a branch writes them. -/
theorem configurationIsWrittenOnlyAtReset : Obligations.ConfigurationIsWrittenOnlyAtReset := by
  refine fun s t h => ⟨fun hrst => ?_, fun hrst => ?_⟩
  · rw [step_next h, nextState, if_pos hrst]
    exact ⟨rfl, rfl⟩
  · have hcommon := step_sameCommon h hrst
    exact ⟨hcommon.cfgUnitId, hcommon.cfgPromisc⟩

/-- Settles O36: the common updates count, and no branch writes the count. -/
theorem silenceIsCounted : Obligations.SilenceIsCounted := fun _ _ hrst h => (step_sameCommon h hrst).gapCnt

/-- Settles O50: the branch of STOPPED is CRC.HOLD, so the common updates' state is the next one. -/
theorem stoppedOnlyCountsSilence : Obligations.StoppedOnlyCountsSilence := by
  intro s hs hrst
  have hrange : s.readsInRange := by constructor <;> simp [hs]
  rw [step_eq fun _ => hrange, nextState_of_running _ hrst, branchState_of_stopped _ _ (by simpa using hs)]
  rfl

/-- Lengths the spec's fields can hold are in range wherever a branch reads by them (R21, R50). -/
theorem State.lengthsFit.readsInRange {s : State} (h : s.lengthsFit) : s.readsInRange := by
  obtain ⟨hrx, htx⟩ := h
  exact ⟨fun _ => hrx, fun _ hlt => Nat.lt_of_lt_of_le hlt htx⟩

/-- Settles O57: a reset cycle reads no store, and any other reads within the lengths. -/
theorem everyCycleHasANextState : Obligations.EveryCycleHasANextState := by
  rintro s (hfit | hrst)
  · exact ⟨_, step_eq fun _ => State.lengthsFit.readsInRange hfit⟩
  · exact ⟨_, step_of_reset hrst⟩

end Sys2Proof.Machine
end

section
/-! PROOFS. spec/42_request_decode.md R140 to R147 and spec/44_sequencer.md R203 to R205, R215: the cycles that decide
on a held frame and on a Response. -/

namespace Sys2Proof.Machine

/-! ### The instruction of a cycle -/

theorem step_eq_branch {s : State} (hrst : s.input.rst = false) :
    step s = branch Config.t35Cycles s.input (s.popInput.beginCycle Config.t35Cycles s.input) :=
  if_neg (by simp [hrst])

/-- A frame that passes the overrun check, the CRC and the address filter is dispatched or answered, by its code,
unless its length is wrong (R140). -/
theorem validate_of_addressed {s : State} (hovf : s.rxOvf = false) (hok : crcOk s.rxFrame = true)
    (haddr : s.addressed (byteAt s.rxFrame 0) = true) :
    validate s =
      if supportedFc (byteAt s.rxFrame 1) then
        if lengthOk s.rxFrame then .dispatch s.request else .ignore .length
      else .respondException (byteAt s.rxFrame 0) (byteAt s.rxFrame 1) 0x01#8 := by
  have hfour : ¬ s.rxLen < 4 := by
    have hlen := four_le_length_of_crcOk hok
    rw [State.rxFrame_length] at hlen
    omega
  rw [validate, hovf, if_neg Bool.false_ne_true, if_neg hfour, hok, haddr]
  cases supportedFc (byteAt s.rxFrame 1) <;> cases lengthOk s.rxFrame <;> rfl

theorem validatingBranch_of_dispatch (i : Inputs) {s : State} {q : Request} (hlen : s.rxLen ≤ Config.rxCap)
    (h : validate s = .dispatch q) : validatingBranch i s = exec q.instr (s.noteByte i) := by
  rw [validatingBranch, if_pos hlen, h]

theorem validatingBranch_of_exception (i : Inputs) {s : State} {addr fc code : Byte} (hlen : s.rxLen ≤ Config.rxCap)
    (h : validate s = .respondException addr fc code) :
    validatingBranch i s = exec (.illegalFunctionRsp addr fc) (s.noteByte i) := by
  rw [validatingBranch, if_pos hlen, h]

/-- Settles O1: a frame that decodes has the CRC and the length of its code, so its verdict runs the instruction it
decodes to. -/
theorem heldFrameRunsItsInstruction : Obligations.HeldFrameRunsItsInstruction := by
  intro s i hs hrst hlen hovf haddr hdecode
  obtain ⟨-, hok, hfit, rfl⟩ := decodeFrame_eq_ok_iff.mp hdecode
  have hfour := four_le_length_of_crcOk hok
  rw [State.rxFrame_length] at hfour
  have hpassed : s.addressed (byteAt s.rxFrame 0) = true := by
    rwa [State.addressed_iff, s.byteAt_rxFrame (by omega)]
  have hverdict := validate_of_addressed hovf hok hpassed
  have hbranch : step s = validatingBranch s.input (s.popInput.beginCycle Config.t35Cycles s.input) := by
    rw [step_eq_branch hrst, branch]
    simp only [State.beginCycle_fsm, State.popInput_fsm, hs]
  rw [hbranch]
  cases hsupported : supportedFc (byteAt s.rxFrame 1) with
  | true =>
    rw [if_pos hsupported, if_pos (hfit hsupported)] at hverdict
    exact validatingBranch_of_dispatch _ hlen hverdict
  | false =>
    rw [hsupported, if_neg Bool.false_ne_true] at hverdict
    rw [instr_of_unsupported hsupported]
    exact validatingBranch_of_exception _ hlen hverdict

/-- Settles O2: the branch of DISPATCHING runs the instruction that the Request and the Response select. -/
theorem selectedResponseRuns : Obligations.SelectedResponseRuns := by
  intro s i hs hrst hlen hvalid hselect
  have hbranch : step s = dispatchingBranch s.input (s.popInput.beginCycle Config.t35Cycles s.input) := by
    rw [step_eq_branch hrst, branch]
    simp only [State.beginCycle_fsm, State.popInput_fsm, hs]
  rw [hbranch, dispatchingBranch, if_pos (by exact hlen), if_pos hvalid, State.request_beginCycle,
    State.request_popInput, hselect]

/-! ### The verdict on a held frame -/

/-- R203: where a verdict leads. -/
def Verdict.next (i : Inputs) (s : State) : Verdict → State
  | .ignore r => (s.noteByte i).dropFrame r.event
  | .respondException addr fc _ => ((s.noteByte i).emit .illFunc).loadTx (excBody addr fc 0x01#8)
  | .dispatch _ => (s.noteByte i).presentRequest

theorem branchState_of_validating (t35 : Nat) (i : Inputs) {s : State} (hs : s.fsm = .validating) :
    branchState t35 i s = (validate s).next i s := by
  simp only [branchState, hs]
  cases validate s <;> rfl

theorem step_of_validating {s : State} (hs : s.fsm = .validating) (hrst : s.input.rst = false)
    (hlen : s.rxLen ≤ Config.rxCap) :
    step s = .next ((validate s).next s.input (s.popInput.beginCycle Config.t35Cycles s.input)) := by
  have hrange : s.readsInRange := ⟨fun _ => hlen, by simp [hs]⟩
  rw [step_eq fun _ => hrange, nextState_of_running _ hrst, branchState_of_validating _ _ (by simpa using hs),
    validate_beginCycle, validate_popInput]

/-- No verdict writes the receive side. -/
theorem Verdict.next_receive (v : Verdict) (i : Inputs) (s : State) :
    (v.next i s).rxBuf = s.rxBuf ∧ (v.next i s).rxLen = s.rxLen ∧ (v.next i s).rxOvf = s.rxOvf ∧
      (v.next i s).rxCrc = s.rxCrc := by
  cases v <;> exact ⟨rfl, rfl, rfl, rfl⟩

/-- R110, as the spec writes it, for the held frame. -/
theorem State.crcOk_rxFrame_iff {s : State} (h : 4 ≤ s.rxLen) :
    crcOk s.rxFrame = true ↔ crc16 (s.rxFrame.take (s.rxLen - 2)) =
      le16 (byteAt s.rxFrame (s.rxLen - 2)) (byteAt s.rxFrame (s.rxLen - 1)) := by
  simp [crcOk, frameBody, Sys2Proof.frameCrc, h]

/-- R146, as the spec writes it, for the held frame. -/
theorem State.lengthOk_rxFrame_iff (s : State) :
    lengthOk s.rxFrame = false ↔ (if fixedLen (byteAt s.rxFrame 1) = some 8 then s.rxLen ≠ 8
      else s.rxLen < 9 ∨ s.rxLen ≠ 9 + (byteAt s.rxFrame 6).toNat) := by
  simp only [lengthOk, fixedLen_eq_some_iff, State.rxFrame_length]
  split <;> simp [imp_iff_not_or]

/-- R140 to R146, with every check as the spec writes it. -/
theorem validate_eq (s : State) : validate s =
    if s.rxOvf = true then .ignore .overrun
    else if s.rxLen < 4 then .ignore .short
    else if crc16 (s.rxFrame.take (s.rxLen - 2)) ≠
        le16 (byteAt s.rxFrame (s.rxLen - 2)) (byteAt s.rxFrame (s.rxLen - 1)) then .ignore .crc
    else if s.cfgPromisc = false ∧ byteAt s.rxFrame 0 ≠ s.cfgUnitId then .ignore .notAddr
    else if byteAt s.rxFrame 1 ∉ supportedCodes then
      .respondException (byteAt s.rxFrame 0) (byteAt s.rxFrame 1) 0x01#8
    else if (if fixedLen (byteAt s.rxFrame 1) = some 8 then s.rxLen ≠ 8
        else s.rxLen < 9 ∨ s.rxLen ≠ 9 + (byteAt s.rxFrame 6).toNat) then .ignore .length
    else .dispatch s.request := by
  rw [validate]
  refine if_congr Iff.rfl rfl ?_
  by_cases hshort : s.rxLen < 4
  · rw [if_pos hshort, if_pos hshort]
  · rw [if_neg hshort, if_neg hshort]
    have hcrc := State.crcOk_rxFrame_iff (Nat.not_lt.mp hshort)
    have haddr := s.addressed_iff (byteAt s.rxFrame 0)
    refine if_congr ?_ rfl (if_congr ?_ rfl (if_congr ?_ rfl (if_congr ?_ rfl rfl)))
    · rw [Bool.not_eq_true', ← Bool.not_eq_true, hcrc]
    · rw [Bool.not_eq_true', ← Bool.not_eq_true, haddr, not_or, Bool.not_eq_true]
    · simp [supportedFc]
    · rw [Bool.not_eq_true', s.lengthOk_rxFrame_iff]

/-- What each verdict leaves of the state before the cycle, `drop` being the event of a byte received in it (R147,
R203). -/
def Verdict.Effects (s t : State) (drop : BitVec 8) : Verdict → Prop
  | .ignore r =>
    t.ev = drop ||| r.event.mask ∧ t.txBody = s.txBody ∧ t.txLen = s.txLen ∧ t.txIdx = s.txIdx ∧ t.txCrc = s.txCrc ∧
      t.fsm = if s.stopPending = true ∨ s.input.stop = true then .stopped else .idle
  | .respondException addr fc code =>
    t.ev = drop ||| 0x20#8 ∧ t.fsm = .responding ∧ t.txLen = 3 ∧ t.txIdx = 0 ∧ t.txCrc = 0xFFFF#16 ∧
      t.txPrefix 3 = [addr, fc ||| 0x80#8, code]
  | .dispatch q =>
    t.ev = drop ∧ t.fsm = .dispatching ∧ t.request = q ∧ t.txBody = s.txBody ∧ t.txLen = s.txLen ∧
      t.txIdx = s.txIdx ∧ t.txCrc = s.txCrc

/-- An exception's verdict carries code 1 (R145). -/
theorem code_of_validate_eq_respondException {s : State} {addr fc code : Byte}
    (h : validate s = .respondException addr fc code) : code = 0x01#8 := by
  rw [validate_eq] at h
  split_ifs at h
  cases h
  rfl

theorem validate_effects (s : State) :
    (validate s).Effects s ((validate s).next s.input (s.popInput.beginCycle Config.t35Cycles s.input))
      (if s.input.rxValid = true then 0x40#8 else 0x00#8) := by
  have hev := s.popInput.noteByte_beginCycle_ev Config.t35Cycles s.input
  have hdone := s.popInput.idleNext_beginCycle Config.t35Cycles s.input
  cases h : validate s with
  | ignore r => exact ⟨congrArg (· ||| r.event.mask) hev, rfl, rfl, rfl, rfl, hdone⟩
  | respondException addr fc code =>
    obtain rfl := code_of_validate_eq_respondException h
    exact ⟨congrArg (· ||| Event.illFunc.mask) hev, rfl, rfl, rfl, rfl,
      State.txPrefix_loadTx (excBody addr fc 0x01#8) _⟩
  | dispatch q =>
    obtain ⟨rfl, -⟩ := validate_eq_dispatch h
    exact ⟨hev, rfl, rfl, rfl, rfl, rfl, rfl⟩

/-- Settles O44: each verdict has the effects the statement lists, and `validate` makes the checks in its order. -/
theorem firstFailingCheckDecides : Obligations.FirstFailingCheckDecides := by
  rintro s _ _ _ hs hrst hlen rfl rfl rfl
  obtain ⟨hbuf, hrxLen, hovf, hcrc⟩ :=
    (validate s).next_receive s.input (s.popInput.beginCycle Config.t35Cycles s.input)
  refine ⟨_, step_of_validating hs hrst hlen, hbuf, hrxLen, hovf, hcrc, ?_⟩
  have heffects := validate_effects s
  conv at heffects => arg 4; rw [validate_eq]
  simp only [apply_ite (Verdict.Effects _ _ _)] at heffects
  exact heffects

/-! ### The dispatcher's answer -/

/-- R205: where a Response leads. -/
def respondState (i : Inputs) (s : State) : State :=
  match encodeResponse s.request i.resp with
  | some body => (s.noteByte i).loadTx body
  | none => (s.noteByte i).refuseResponse

theorem branchState_of_response (t35 : Nat) {i : Inputs} {s : State} (hs : s.fsm = .dispatching)
    (hvalid : i.respValid = true) : branchState t35 i s = respondState i s := by
  simp only [branchState, hs, hvalid, if_true]
  rfl

theorem branchState_of_no_response (t35 : Nat) {i : Inputs} {s : State} (hs : s.fsm = .dispatching)
    (hsilent : i.respValid = false) : branchState t35 i s = s.noteByte i := by
  simp [branchState, hs, hsilent]

theorem readsInRange_of_dispatching {s : State} (hs : s.fsm = .dispatching) (hlen : s.rxLen ≤ Config.rxCap) :
    s.readsInRange :=
  ⟨fun _ => hlen, by simp [hs]⟩

/-- Settles O45: the response instructions together load the body of `encode_response`, or refuse. -/
theorem dispatchingLoadsTheEncodedResponse : Obligations.DispatchingLoadsTheEncodedResponse := by
  intro s hs hrst hlen hvalid
  have hev := s.popInput.noteByte_beginCycle_ev Config.t35Cycles s.input
  have hdone := s.popInput.idleNext_beginCycle Config.t35Cycles s.input
  have hstep : step s = .next (respondState s.input (s.popInput.beginCycle Config.t35Cycles s.input)) := by
    rw [step_eq fun _ => readsInRange_of_dispatching hs hlen, nextState_of_running _ hrst,
      branchState_of_response _ (by simpa using hs) hvalid]
  rw [respondState, State.request_beginCycle, State.request_popInput] at hstep
  refine ⟨_, hstep, ?_⟩
  cases encodeResponse s.request s.input.resp with
  | some body => exact ⟨rfl, rfl, rfl, rfl, State.txPrefix_loadTx body _, rfl, rfl, hev⟩
  | none =>
    refine ⟨rfl, rfl, hdone, ?_, rfl, rfl, rfl, rfl⟩
    refine (congrArg (· ||| Event.respErr.mask) hev).trans ?_
    cases s.input.rxValid <;> rfl

/-- A cycle without a Response keeps DISPATCHING and the held frame, and latches a stop (R204, R215). -/
theorem step_of_no_response {s : State} {i : Inputs} {rest : List Inputs} (hs : s.fsm = .dispatching)
    (hlen : s.rxLen ≤ 256) (hin : s.inputs = i :: rest) (hrst : i.rst = false) (hsilent : i.respValid = false) :
    ∃ t, step s = .next t ∧ t.fsm = .dispatching ∧ s.SameFrame t ∧ t.inputs = rest ∧
      t.stopPending = (s.stopPending || i.stop) := by
  obtain rfl := State.input_of_inputs hin
  refine ⟨_, step_eq fun _ => readsInRange_of_dispatching hs hlen, ?_⟩
  rw [nextState_of_running _ hrst, branchState_of_no_response _ (by simpa using hs) hsilent]
  exact ⟨hs, ⟨rfl, rfl, rfl⟩, congrArg List.tail hin, rfl⟩

/-- Settles O47: by induction on the number of cycles. -/
theorem silentDispatcherHoldsTheCodec : Obligations.SilentDispatcherHoldsTheCodec := by
  intro n
  induction n with
  | zero => exact fun s hs _ _ _ => ⟨s, rfl, hs, rfl, by simp⟩
  | succ n ih =>
    intro s hs hlen hn hquiet
    obtain ⟨i, rest, hin⟩ := List.exists_cons_of_length_pos (Nat.lt_of_lt_of_le n.succ_pos hn)
    rw [hin, List.length_cons] at hn
    rw [hin, List.take_succ_cons] at hquiet
    obtain ⟨hrst, hsilent⟩ := hquiet i List.mem_cons_self
    obtain ⟨u, hstep, hu, hframe, hrest, hstop⟩ := step_of_no_response hs hlen hin hrst hsilent
    obtain ⟨t, hrun, ht, hrequest, hlatch⟩ := ih u hu (hframe.rxLen ▸ hlen) (by rw [hrest]; omega)
      (fun j hj => hquiet j (List.mem_cons_of_mem i (hrest ▸ hj)))
    refine ⟨t, run_succ.mpr ⟨u, hstep, hrun⟩, ht, hrequest.trans hframe.request, ?_⟩
    rw [hlatch, hstop, hrest, hin, List.take_succ_cons, List.exists_mem_cons_iff, Bool.or_eq_true, or_assoc]

/-! ### Exception codes -/

theorem not_getLsbD_seven_of_supportedFc {fc : Byte} (h : supportedFc fc = true) : ¬ fc.getLsbD 7 = true := by
  rcases (supportedFc_iff fc).mp h with rfl | rfl | rfl | rfl | rfl | rfl | rfl | rfl <;> decide

/-- R171 to R179: only an exception's body has bit 7 set in byte 1, and its code is one of R79. -/
theorem exception_of_encodeResponse {q : Request} {r : Response} {body : List Byte}
    (h : encodeResponse q r = some body) (hbit : (byteAt body 1).getLsbD 7 = true) :
    body.length = 3 ∧ legalException (byteAt body 2) = true := by
  cases r <;> simp only [encodeResponse, Option.ite_none_right_eq_some, Option.some.injEq] at h <;>
    obtain ⟨hok, rfl⟩ := h
  case exc c => exact ⟨rfl, hok⟩
  case bits v => exact absurd hbit (not_getLsbD_seven_of_supportedFc ((supportedFc_iff _).mpr (by tauto)))
  case regs w => exact absurd hbit (not_getLsbD_seven_of_supportedFc ((supportedFc_iff _).mpr (by tauto)))
  case writeOk => exact absurd hbit (not_getLsbD_seven_of_supportedFc ((supportedFc_iff _).mpr (by tauto)))

/-- Settles O52: the body a step enters RESPONDING with is the codec's own exception, with code 1, or a Response's. -/
theorem exceptionCodesOnTheWire : Obligations.ExceptionCodesOnTheWire := by
  intro s t h hs ht hbit
  have hbranch := step_of_responding h ht
  rw [hbranch] at ht
  rcases branchState_enters_responding (by simpa using hs) ht with
    ⟨-, addr, fc, -, -, hstate⟩ | ⟨-, -, body, hbody, hstate⟩
  · rw [hbranch, hstate]
    refine ⟨rfl, .inl ?_⟩
    rw [State.txBodyByte_loadTx_of_lt (by simp)]
    rfl
  · obtain ⟨hthree, -⟩ := encodeResponse_length hbody
    rw [hbranch, hstate, State.txBodyByte_loadTx_of_lt (by omega)] at hbit
    obtain ⟨hlen, hcode⟩ := exception_of_encodeResponse hbody hbit
    rw [hbranch, hstate, State.txBodyByte_loadTx_of_lt (by omega)]
    exact ⟨hlen, (legalException_iff _).mp hcode⟩

end Sys2Proof.Machine
end

section
/-! PROOFS. spec/20_memory.md R50 and spec/10_state.md R21, R25, R27: the invariant of the codec. -/

namespace Sys2Proof.Machine

/-! ### What a branch writes -/

/-- What a branch can do to the stores and their counts: nothing, one of the two receive actions (R121, R122), the load
of a body (R186), or a transfer (R206). -/
inductive State.Writes (s : State) : State → Prop
  | none : s.Writes s
  | start (b : Byte) : s.Writes (startState b s)
  | append (b : Byte) : s.Writes (appendState b s)
  | load (body : List Byte) (hcap : body.length ≤ Config.txBodyCap) : s.Writes (s.loadTx body)
  | transfer (hs : s.fsm = .responding) : s.Writes { s with txIdx := s.txIdx + 1 }

/-- Two states with the same stores and counts. -/
structure State.SameStores (s t : State) : Prop where
  rxBuf : t.rxBuf = s.rxBuf
  rxLen : t.rxLen = s.rxLen
  rxOvf : t.rxOvf = s.rxOvf
  txBody : t.txBody = s.txBody
  txLen : t.txLen = s.txLen
  txIdx : t.txIdx = s.txIdx

theorem excBody_fits (addr fc code : Byte) : (excBody addr fc code).length ≤ Config.txBodyCap := by
  rw [excBody_length]
  decide

/-- A branch makes at most one of the writes. -/
theorem branchState_writes (t35 : Nat) (i : Inputs) (s : State) :
    ∃ u, s.Writes u ∧ u.SameStores (branchState t35 i s) := by
  unfold branchState
  cases hs : s.fsm with
  | idle =>
    dsimp only
    split
    · exact ⟨s, .none, rfl, rfl, rfl, rfl, rfl, rfl⟩
    · split
      · exact ⟨_, .start i.rxData, rfl, rfl, rfl, rfl, rfl, rfl⟩
      · exact ⟨s, .none, rfl, rfl, rfl, rfl, rfl, rfl⟩
  | receiving =>
    dsimp only
    split
    · exact ⟨s, .none, rfl, rfl, rfl, rfl, rfl, rfl⟩
    · split
      · split <;> exact ⟨_, .append i.rxData, rfl, rfl, rfl, rfl, rfl, rfl⟩
      · split <;> exact ⟨s, .none, rfl, rfl, rfl, rfl, rfl, rfl⟩
  | validating =>
    cases validate s with
    | ignore r => exact ⟨s, .none, rfl, rfl, rfl, rfl, rfl, rfl⟩
    | respondException addr fc code =>
      exact ⟨_, .load _ (excBody_fits addr fc 0x01#8), rfl, rfl, rfl, rfl, rfl, rfl⟩
    | dispatch q => exact ⟨s, .none, rfl, rfl, rfl, rfl, rfl, rfl⟩
  | dispatching =>
    dsimp only
    split
    · cases hbody : encodeResponse s.request i.resp with
      | some body =>
        obtain ⟨-, hcap⟩ := encodeResponse_length hbody
        exact ⟨_, .load body hcap, rfl, rfl, rfl, rfl, rfl, rfl⟩
      | none => exact ⟨s, .none, rfl, rfl, rfl, rfl, rfl, rfl⟩
    · exact ⟨s, .none, rfl, rfl, rfl, rfl, rfl, rfl⟩
  | responding =>
    dsimp only
    split
    · split <;> exact ⟨_, .transfer hs, rfl, rfl, rfl, rfl, rfl, rfl⟩
    · exact ⟨s, .none, rfl, rfl, rfl, rfl, rfl, rfl⟩
  | stopped => exact ⟨s, .none, rfl, rfl, rfl, rfl, rfl, rfl⟩

/-! ### The stores -/

/-- Both stores are in canonical form, within their indices (R50). -/
structure State.StoresWf (s : State) : Prop where
  rx : Memory.wf Config.rxCap s.rxBuf = true
  tx : Memory.wf Config.txBodyCap s.txBody = true

theorem startState_storesWf {s : State} (h : s.StoresWf) (b : Byte) : (startState b s).StoresWf :=
  ⟨Memory.wf_set _ _ (by decide) h.rx, h.tx⟩

theorem appendState_storesWf {s : State} (h : s.StoresWf) (b : Byte) : (appendState b s).StoresWf := by
  rcases Nat.lt_or_ge s.rxLen Config.rxCap with hroom | hfull
  · rw [appendState_of_room b hroom]
    exact ⟨Memory.wf_set _ _ hroom h.rx, h.tx⟩
  · rw [appendState_of_full b hfull]
    exact ⟨h.rx, h.tx⟩

theorem State.loadTx_storesWf {s : State} (h : s.StoresWf) {body : List Byte}
    (hcap : body.length ≤ Config.txBodyCap) :
    (s.loadTx body).StoresWf :=
  ⟨h.rx, Memory.wf_load _ _ _ (by rwa [Nat.zero_add]) h.tx⟩

/-- Every write of a branch is within its store. -/
theorem branchState_storesWf {s : State} (h : s.StoresWf) (t35 : Nat) (i : Inputs) :
    (branchState t35 i s).StoresWf := by
  obtain ⟨u, hwrite, hsame⟩ := branchState_writes t35 i s
  have hu : u.StoresWf := by
    cases hwrite with
    | none => exact h
    | start b => exact startState_storesWf h b
    | append b => exact appendState_storesWf h b
    | load body hcap => exact State.loadTx_storesWf h hcap
    | transfer hs => exact ⟨h.rx, h.tx⟩
  exact ⟨hsame.rxBuf ▸ hu.rx, hsame.txBody ▸ hu.tx⟩

theorem step_storesWf {s t : State} (hs : s.StoresWf) (h : step s = .next t) : t.StoresWf := by
  rw [step_next h, nextState]
  split
  · exact ⟨rfl, rfl⟩
  · exact branchState_storesWf (s := s.popInput.beginCycle Config.t35Cycles s.input) ⟨hs.rx, hs.tx⟩ _ _

/-- Settles O56: a reset cycle empties both stores, and the three operations that write one write within it. -/
theorem storesStayCanonical : Obligations.StoresStayCanonical := fun _ _ hrx htx h =>
  have hwf := step_storesWf ⟨hrx, htx⟩ h
  ⟨hwf.rx, hwf.tx⟩

/-! ### The parts of the invariant -/

/-- The ranges of the lengths, and that no byte is read before it is written (R21, R52). -/
structure State.Ranges (s : State) : Prop where
  rxLenLe : s.rxLen ≤ Config.rxCap
  txLenLe : s.txLen ≤ Config.txBodyCap
  txIdxLe : s.txIdx ≤ s.txLen + 2
  rxWritten : ∀ i, i < s.rxLen → (Memory.get? s.rxBuf i).isSome = true
  txWritten : ∀ i, i < s.txLen → (Memory.get? s.txBody i).isSome = true
  ovfFull : s.rxOvf = true → s.rxLen = Config.rxCap

/-- R25 (a) and (c): a frame is held, and `rx_crc` is its CRC. -/
structure State.Holding (s : State) : Prop where
  started : 1 ≤ s.rxLen
  crc : s.rxCrc = crc16 s.rxFrame

/-- R27 (a), (b) and (c): a body is being sent, and `tx_crc` is the CRC of its bytes sent. -/
structure State.Sending (s : State) : Prop where
  len : 3 ≤ s.txLen
  idx : s.txIdx ≤ s.txLen + 1
  crc : s.txCrc = crc16 (s.txPrefix (min s.txIdx s.txLen))

/-- What the invariant says of each state of the sequencer. -/
def State.PhaseOf (s : State) : Fsm → Prop
  | .idle => True
  | .receiving => s.Holding ∧ s.stopPending = false
  | .validating => s.Holding
  | .dispatching => s.Holding ∧ validate s = .dispatch s.request
  | .responding => s.Sending
  | .stopped => s.stopPending = true

def State.Phase (s : State) : Prop := s.PhaseOf s.fsm

theorem State.phase_iff {s : State} {f : Fsm} (h : s.fsm = f) : s.Phase ↔ s.PhaseOf f := by
  rw [State.Phase, h]

/-- The invariant, by what its parts speak of. -/
theorem State.inv_iff (s : State) :
    s.Inv ↔ s.StoresWf ∧ s.Ranges ∧ s.gapCnt ≤ Config.t35Cycles ∧ s.Phase := by
  constructor
  · intro h
    refine ⟨⟨h.rxWf, h.txWf⟩, ⟨h.rxLenLe, h.txLenLe, h.txIdxLe, h.rxWritten, h.txWritten, h.ovfFull⟩, h.gapLe, ?_⟩
    have hholding (hs : s.holdsFrame) : s.Holding := ⟨h.frameStarted hs, h.frameCrc hs⟩
    cases hs : s.fsm with
    | idle => exact (State.phase_iff hs).mpr trivial
    | receiving => exact (State.phase_iff hs).mpr ⟨hholding (.inl hs), h.noStopReceiving hs⟩
    | validating => exact (State.phase_iff hs).mpr (hholding (.inr (.inl hs)))
    | dispatching => exact (State.phase_iff hs).mpr ⟨hholding (.inr (.inr hs)), h.dispatchedValid hs⟩
    | responding => exact (State.phase_iff hs).mpr ⟨h.sendLen hs, h.sendIdx hs, h.sendCrc hs⟩
    | stopped => exact (State.phase_iff hs).mpr (h.stopInStopped hs)
  · rintro ⟨hwf, hr, hgap, hphase⟩
    have hphaseOf {f : Fsm} (hs : s.fsm = f) : s.PhaseOf f := (State.phase_iff hs).mp hphase
    have hholding (hs : s.holdsFrame) : s.Holding := by
      rcases hs with hs | hs | hs
      · exact (hphaseOf hs).1
      · exact hphaseOf hs
      · exact (hphaseOf hs).1
    have hsending (hs : s.fsm = .responding) : s.Sending := hphaseOf hs
    exact {
      rxWf := hwf.rx, txWf := hwf.tx
      rxLenLe := hr.rxLenLe, txLenLe := hr.txLenLe, txIdxLe := hr.txIdxLe, gapLe := hgap
      rxWritten := hr.rxWritten, txWritten := hr.txWritten, ovfFull := hr.ovfFull
      frameStarted := fun hs => (hholding hs).started
      frameCrc := fun hs => (hholding hs).crc
      sendLen := fun hs => (hsending hs).len
      sendIdx := fun hs => (hsending hs).idx
      sendCrc := fun hs => (hsending hs).crc
      noStopReceiving := fun hs => (hphaseOf hs).2
      stopInStopped := fun hs => hphaseOf hs
      dispatchedValid := fun hs => (hphaseOf hs).2 }

/-- Settles O54: the stores are empty, every count is 0, and IDLE holds no frame and sends none. -/
theorem invariantHoldsAtReset : Obligations.InvariantHoldsAtReset :=
  (State.inv_iff _).mpr ⟨⟨rfl, rfl⟩,
    ⟨Nat.zero_le _, Nat.zero_le _, Nat.zero_le _, nofun, nofun, nofun⟩, Nat.zero_le _, trivial⟩

/-- The invariant does not speak of what else a reset cycle samples or renews. -/
theorem resetState_inv (i : Inputs) (s : State) : (resetState i s).Inv :=
  { invariantHoldsAtReset with }

/-! ### The ranges over a branch -/

theorem startState_ranges {s : State} (h : s.Ranges) (b : Byte) : (startState b s).Ranges := by
  refine ⟨?_, h.txLenLe, h.txIdxLe, fun i hi => ?_, h.txWritten, nofun⟩
  · exact Nat.le_of_ble_eq_true rfl
  · obtain rfl : i = 0 := Nat.lt_one_iff.mp hi
    simp [startState]

theorem appendState_ranges {s : State} (h : s.Ranges) (b : Byte) : (appendState b s).Ranges := by
  rcases Nat.lt_or_ge s.rxLen Config.rxCap with hroom | hfull
  · rw [appendState_of_room b hroom]
    refine ⟨hroom, h.txLenLe, h.txIdxLe, fun i (hi : i < s.rxLen + 1) => ?_, h.txWritten, fun hovf => ?_⟩
    · rw [Memory.get?_set]
      split
      · rfl
      · exact h.rxWritten i (by omega)
    · exact absurd (h.ovfFull hovf) (Nat.ne_of_lt hroom)
  · rw [appendState_of_full b hfull]
    exact ⟨h.rxLenLe, h.txLenLe, h.txIdxLe, h.rxWritten, h.txWritten, fun _ => Nat.le_antisymm h.rxLenLe hfull⟩

theorem State.loadTx_ranges {s : State} (h : s.Ranges) {body : List Byte} (hcap : body.length ≤ Config.txBodyCap) :
    (s.loadTx body).Ranges := by
  refine ⟨h.rxLenLe, hcap, Nat.zero_le _, h.rxWritten, fun i (hi : i < body.length) => ?_, h.ovfFull⟩
  simp [Memory.get?_load, hi]

/-- A branch keeps the ranges; a byte is transferred only while the index is below the end of the frame (R27 b). -/
theorem branchState_ranges {s : State} (h : s.Ranges) (hidx : s.fsm = .responding → s.txIdx ≤ s.txLen + 1) (t35 : Nat)
    (i : Inputs) : (branchState t35 i s).Ranges := by
  obtain ⟨u, hwrite, hsame⟩ := branchState_writes t35 i s
  have hu : u.Ranges := by
    cases hwrite with
    | none => exact h
    | start b => exact startState_ranges h b
    | append b => exact appendState_ranges h b
    | load body hcap => exact State.loadTx_ranges h hcap
    | transfer hs => exact { h with txIdxLe := Nat.succ_le_succ (hidx hs) }
  obtain ⟨hrxBuf, hrxLen, hrxOvf, htxBody, htxLen, htxIdx⟩ := hsame
  refine ⟨?_, ?_, ?_, ?_, ?_, ?_⟩ <;> simp only [hrxBuf, hrxLen, hrxOvf, htxBody, htxLen, htxIdx]
  · exact hu.rxLenLe
  · exact hu.txLenLe
  · exact hu.txIdxLe
  · exact hu.rxWritten
  · exact hu.txWritten
  · exact hu.ovfFull

/-! ### The phases over a branch -/

theorem State.loadTx_sending {body : List Byte} (h : 3 ≤ body.length) (s : State) : (s.loadTx body).Sending where
  len := h
  idx := Nat.zero_le _
  crc := by simp

/-- R207: a frame that ends leaves IDLE, or STOPPED with the stop pending. -/
theorem State.phaseOf_idleNext (s : State) : s.PhaseOf s.idleNext := by
  unfold State.idleNext
  split
  · assumption
  · trivial

theorem startState_holding (b : Byte) (s : State) : (startState b s).Holding where
  started := Nat.le_refl _
  crc := by
    rw [State.rxFrame_start s _ b rfl rfl]
    rfl

theorem appendState_holding {s : State} (h : s.Holding) (b : Byte) : (appendState b s).Holding := by
  rcases Nat.lt_or_ge s.rxLen Config.rxCap with hroom | hfull
  · have hstate := appendState_of_room b hroom
    have hframe : (appendState b s).rxFrame = s.rxFrame ++ [b] :=
      State.rxFrame_append s _ b (by rw [hstate]) (by rw [hstate]) (by rw [hstate]; rfl)
    refine ⟨?_, ?_⟩
    · rw [hstate]
      exact Nat.succ_le_succ (Nat.zero_le _)
    · rw [hframe, crc16_concat, ← h.crc, hstate]
      rfl
  · rw [appendState_of_full b hfull]
    exact ⟨h.started, h.crc⟩

/-- A transfer advances the index and absorbs the byte, if it is a body byte (R206). -/
theorem State.sending_of_transfer {s t : State} (h : s.Sending) (hlen : t.txLen = s.txLen)
    (hidx : t.txIdx = s.txIdx + 1) (hmore : t.txIdx ≠ t.txLen + 2) (hbody : t.txBodyByte = s.txBodyByte)
    (hcrc : t.txCrc = if s.txIdx < s.txLen then crcUpd s.txCrc (s.txBodyByte s.txIdx) else s.txCrc) : t.Sending := by
  have hsame (n : Nat) : t.txPrefix n = s.txPrefix n := by rw [State.txPrefix, State.txPrefix, hbody]
  obtain ⟨hthree, hbound, hsent⟩ := h
  refine ⟨by omega, by omega, ?_⟩
  rw [hcrc, hsame, hidx, hlen]
  split
  · rw [Nat.min_eq_left (by omega)] at hsent ⊢
    rw [State.txPrefix_succ, crc16_concat, hsent]
  · rw [Nat.min_eq_right (by omega)] at hsent ⊢
    exact hsent

/-- Each branch leads to a state with what its phase asks. The common updates come first: they latch this cycle's
stop. -/
theorem branchState_phase {s : State} (h : s.Phase) (t35 : Nat) (i : Inputs) :
    (branchState t35 i (s.popInput.beginCycle t35 i)).Phase := by
  cases hs : s.fsm with
  | idle =>
    have hu : (s.popInput.beginCycle t35 i).fsm = .idle := hs
    simp only [branchState, hu]
    split
    · assumption
    · split
      · exact ⟨startState_holding _ _, Bool.eq_false_iff.mpr ‹_›⟩
      · exact (State.phase_iff hu).mpr trivial
  | receiving =>
    obtain ⟨hholding, hstop⟩ := (State.phase_iff hs).mp h
    have hu : (s.popInput.beginCycle t35 i).fsm = .receiving := hs
    have hkeep : (s.popInput.beginCycle t35 i).Holding := { hholding with }
    have happend := appendState_holding hkeep i.rxData
    have hlatch : (s.popInput.beginCycle t35 i).stopPending = i.stop := by
      rw [State.beginCycle_stopPending, State.popInput_stopPending, hstop, Bool.false_or]
    simp only [branchState, hu]
    split
    · exact hlatch.trans ‹_›
    · have hnone : (s.popInput.beginCycle t35 i).stopPending = false := hlatch.trans (Bool.eq_false_iff.mpr ‹_›)
      split
      · split
        · exact { happend with }
        · exact (State.phase_iff ((appendState_fsm _ _).trans hu)).mpr
            ⟨happend, (appendState_stopPending _ _).trans hnone⟩
      · split
        · exact { hkeep with }
        · exact (State.phase_iff hu).mpr ⟨hkeep, hnone⟩
  | validating =>
    have hholding : s.Holding := (State.phase_iff hs).mp h
    have hu : (s.popInput.beginCycle t35 i).fsm = .validating := hs
    rw [branchState_of_validating _ _ hu, validate_beginCycle, validate_popInput]
    cases hv : validate s with
    | ignore r => exact State.phaseOf_idleNext _
    | respondException addr fc code => exact State.loadTx_sending (by simp) _
    | dispatch q =>
      obtain ⟨rfl, -⟩ := validate_eq_dispatch hv
      exact ⟨{ hholding with }, hv⟩
  | dispatching =>
    obtain ⟨hholding, hvalid⟩ := (State.phase_iff hs).mp h
    have hu : (s.popInput.beginCycle t35 i).fsm = .dispatching := hs
    cases hresp : i.respValid with
    | false =>
      rw [branchState_of_no_response _ hu hresp]
      exact (State.phase_iff (s := (s.popInput.beginCycle t35 i).noteByte i) hs).mpr ⟨{ hholding with }, hvalid⟩
    | true =>
      rw [branchState_of_response _ hu hresp, respondState, State.request_beginCycle, State.request_popInput]
      cases hbody : encodeResponse s.request i.resp with
      | some body =>
        obtain ⟨hthree, -⟩ := encodeResponse_length hbody
        exact State.loadTx_sending hthree _
      | none => exact State.phaseOf_idleNext _
  | responding =>
    have hsending : s.Sending := (State.phase_iff hs).mp h
    have hu : (s.popInput.beginCycle t35 i).fsm = .responding := hs
    cases hready : i.txReady with
    | false =>
      rw [branchState_of_stall _ hu hready]
      exact (State.phase_iff (s := (s.popInput.beginCycle t35 i).noteByte i) hs).mpr { hsending with }
    | true =>
      rw [branchState_of_transfer _ hu hready]
      by_cases hlast : s.txIdx + 1 = s.txLen + 2
      · exact (State.phase_iff (if_pos hlast)).mpr (State.phaseOf_idleNext _)
      · exact (State.phase_iff (f := .responding) ((if_neg hlast).trans hs)).mpr
          (State.sending_of_transfer hsending rfl rfl hlast rfl rfl)
  | stopped =>
    have hstop : s.stopPending = true := (State.phase_iff hs).mp h
    have hu : (s.popInput.beginCycle t35 i).fsm = .stopped := hs
    rw [branchState_of_stopped _ _ hu]
    refine (State.phase_iff hu).mpr ?_
    exact (congrArg (· || i.stop) hstop).trans (Bool.true_or _)

/-! ### Every step -/

/-- Settles O55: a reset cycle leaves the reset state but for its samples, and any other cycle keeps each part of the
invariant. -/
theorem everyStepKeepsTheInvariant : Obligations.EveryStepKeepsTheInvariant := by
  intro s t hinv h
  obtain ⟨hwf, hranges, -, hphase⟩ := s.inv_iff.mp hinv
  cases hrst : s.input.rst with
  | true =>
    rw [step_next h, nextState, if_pos hrst]
    exact resetState_inv _ _
  | false =>
    have hgap : t.gapCnt ≤ Config.t35Cycles := by
      rw [silenceIsCounted s t hrst h]
      split
      · exact Nat.zero_le _
      · exact Nat.min_le_right _ _
    have hbranch := step_of_running h hrst
    refine t.inv_iff.mpr ⟨step_storesWf hwf h, ?_, hgap, ?_⟩
    · rw [hbranch]
      exact branchState_ranges (s := s.popInput.beginCycle Config.t35Cycles s.input) { hranges with } hinv.sendIdx _ _
    · rw [hbranch]
      exact branchState_phase hphase _ _

end Sys2Proof.Machine
end

section
/-! PROOFS. spec/42_request_decode.md R161: a request with one corrupted byte is ignored for its CRC. -/

namespace Sys2Proof.Machine

/-! ### No early boundary -/

/-- A frame of at most 8 bytes with a wrong CRC ends early at none of them. -/
theorem not_endsEarly_of_crc_wrong {g f : List Byte} (h : g <+: f) (hlen : f.length ≤ 8) (hcrc : crcOk f = false) :
    ¬ EndsEarly g := by
  rintro ⟨height, -, hok⟩
  obtain rfl : g = f := h.eq_of_length_le (by omega)
  rw [hcrc] at hok
  cases hok

theorem byteAt_set {f : List Byte} {k j : Nat} (b : Byte) (hj : j < f.length) :
    byteAt (f.set k b) j = if k = j then b else byteAt f j := by
  rw [byteAt, byteAt, List.getD_eq_getElem _ _ (by rwa [List.length_set]), List.getElem_set,
    List.getD_eq_getElem _ _ hj]

/-- R161: a request's frame with one byte changed has a wrong CRC, and ends early at no byte unless its code becomes
one of a fixed length. -/
theorem not_endsEarly_of_corrupted {q : Request} (hq : q.Fits) {k : Nat} {b : Byte}
    (hk : k < (encodeRequest q).length) (hb : b ≠ byteAt (encodeRequest q) k)
    (hcode : ¬ (k = 1 ∧ isMultiple q.fc = true ∧ isReq8 b = true)) {g : List Byte}
    (hg : g <+: (encodeRequest q).set k b) : ¬ EndsEarly g := by
  cases h : isMultiple q.fc with
  | false =>
    have hlen := encodeRequest_length_req8 h
    exact not_endsEarly_of_crc_wrong hg (by rw [List.length_set]; omega)
      (singleByteErrorIsDetected _ k b (crcOk_encodeRequest q) hk hb)
  | true =>
    have hlen := encodeRequest_length_reqm h
    refine not_endsEarly_of_isPrefix hg ?_
    rw [byteAt_set b (by omega), byteAt_encodeRequest_fc]
    split
    · exact Bool.eq_false_iff.mpr fun hreq8 => hcode ⟨‹_›, h, hreq8⟩
    · rw [hq.isReq8_fc, h]
      rfl

/-! ### The verdict -/

theorem validate_of_crc_wrong {s t : State} {f : List Byte} {rest : List Inputs} (ht : s.Received f rest t)
    (hlen : 4 ≤ f.length) (hcrc : crcOk f = false) : validate t = .ignore .crc := by
  have hfour : ¬ t.rxLen < 4 := by rw [ht.rxLen]; omega
  simp [validate, ht.rxOvf, hfour, ht.rxFrame, hcrc]

/-- Settles O59: no byte of the corrupted frame ends it early, so it is received whole, the silence ends it, and its
CRC is wrong. -/
theorem corruptedRequestsAreDropped : Obligations.CorruptedRequestsAreDropped := by
  intro q s k b bytes quiet rest hsupported hunused hpayload hidle hpending hk hb hcode hdata hsilence hbytes hquiet hin
  have hq : q.Fits := ⟨hsupported, hunused, hpayload⟩
  have hok := crcOk_encodeRequest q
  have hfour := four_le_length_of_crcOk hok
  have hcap := encodeRequest_length_le hq
  have hlen : bytes.length = (encodeRequest q).length := by
    rw [← List.length_map Inputs.rxData, hdata, List.length_set]
  rw [List.append_assoc] at hin
  obtain ⟨t, hrun, ht, hgap, hreceived⟩ := run_bytes hidle hpending hin hbytes
    (List.ne_nil_of_length_pos (by omega)) (by omega)
    (fun g hg => not_endsEarly_of_corrupted hq hk hb hcode (hdata ▸ hg))
  rw [hdata] at hreceived
  have hsome : 0 < quiet.length := hsilence ▸ Nat.succ_pos _
  obtain ⟨u, hsilent, hu, hheld⟩ := run_silence ht hreceived hquiet (List.ne_nil_of_length_pos hsome)
    (by rw [hgap, hsilence, Nat.zero_add])
  exact ⟨u, run_add hrun hsilent, hu, validate_of_crc_wrong hheld (by rwa [List.length_set])
    (singleByteErrorIsDetected _ k b hok hk hb)⟩

end Sys2Proof.Machine
end

section
/-! PROOFS. spec/43_response_encode.md R187, R188 and spec/70_reset_and_hazards.md R266: the bytes transferred in
RESPONDING are the loaded body's frame. -/

namespace Sys2Proof.Machine

/-! ### What a channel captures -/

theorem capture_one (s : State) : capture 1 s = (s.transferred s.input).toList := by
  rw [capture]
  cases step s <;> exact List.append_nil _

theorem capture_of_step {s u : State} (h : step s = .next u) (n : Nat) :
    capture (n + 1) s = (s.transferred s.input).toList ++ capture n u := by
  rw [capture, h]

/-- One cycle more captures what that cycle transfers. -/
theorem capture_succ {n : Nat} {s t : State} (h : core.run n s = .next t) :
    capture (n + 1) s = capture n s ++ (t.transferred t.input).toList := by
  induction n generalizing s with
  | zero =>
    cases h
    exact capture_one _
  | succ n ih =>
    obtain ⟨u, hstep, hrun⟩ := run_succ.mp h
    rw [capture_of_step hstep, capture_of_step hstep, ih hrun, List.append_assoc]

theorem State.transferred_of_not_ready (s : State) {i : Inputs} (h : i.txReady = false) : s.transferred i = none := by
  simp [State.transferred, h]

theorem State.transferred_of_reset (s : State) {i : Inputs} (h : i.rst = true) : s.transferred i = none := by
  simp [State.transferred, h]

/-! ### The byte on offer -/

theorem take_succ_eq_append_byteAt {f : List Byte} {k : Nat} (h : k < f.length) :
    f.take (k + 1) = f.take k ++ [byteAt f k] := by
  rw [List.take_succ_eq_append_getElem h, byteAt, List.getD_eq_getElem _ _ h]

/-- R53: the two CRC bytes follow the body, low byte first. -/
theorem byteAt_encodeFrame_crc (body : List Byte) :
    byteAt (encodeFrame body) body.length = lo (crc16 body) ∧
      byteAt (encodeFrame body) (body.length + 1) = hi (crc16 body) := by
  simp [byteAt, encodeFrame]

/-- The frame of the body that a state has loaded (R188). -/
def State.txFrame (s : State) : List Byte := encodeFrame (s.txPrefix s.txLen)

theorem State.txFrame_length (s : State) : s.txFrame.length = s.txLen + 2 := by
  rw [State.txFrame, encodeFrame_length, State.txPrefix_length]

theorem State.txFrame_congr {s t : State} (hlen : t.txLen = s.txLen) (hbody : t.txBodyByte = s.txBodyByte) :
    t.txFrame = s.txFrame := by
  rw [State.txFrame, State.txFrame, State.txPrefix, State.txPrefix, hlen, hbody]

/-- R187: while a body is sent, the byte on offer is the next one of its frame. -/
theorem State.Sending.txByte {s : State} (h : s.Sending) : s.txByte = byteAt s.txFrame s.txIdx := by
  obtain ⟨-, hbound, hcrc⟩ := h
  obtain ⟨hlo, hhi⟩ := byteAt_encodeFrame_crc (s.txPrefix s.txLen)
  rw [State.txPrefix_length] at hlo hhi
  unfold State.txByte State.txFrame
  rcases Nat.lt_or_ge s.txIdx s.txLen with hidx | hidx
  · rw [if_pos hidx, byteAt_encodeFrame (by rwa [State.txPrefix_length]), s.byteAt_txPrefix hidx]
  · rw [Nat.min_eq_right hidx] at hcrc
    rw [if_neg (Nat.not_lt.mpr hidx)]
    rcases Nat.eq_or_lt_of_le hidx with heq | hlt
    · rw [if_pos heq.symm, ← heq, hlo, ← hcrc]
      rfl
    · rw [if_neg (Nat.ne_of_gt hlt), show s.txIdx = s.txLen + 1 by omega, hhi, ← hcrc]
      rfl

/-! ### Counting the cycles that are ready -/

/-- How many of the first `k` scheduled cycles have `tx_ready` = 1. -/
def readyCount (l : List Inputs) (k : Nat) : Nat := ((l.take k).filter Inputs.txReady).length

theorem readyCount_succ {l : List Inputs} {k : Nat} (h : k < l.length) :
    readyCount l (k + 1) = readyCount l k + if l[k].txReady = true then 1 else 0 := by
  rw [readyCount, readyCount, List.take_succ_eq_append_getElem h, List.filter_append, List.length_append]
  cases hready : l[k].txReady <;> simp [hready]

theorem readyCount_mono (l : List Inputs) {j k : Nat} (h : j ≤ k) : readyCount l j ≤ readyCount l k :=
  ((List.take_sublist_take_left h).filter _).length_le

/-! ### A transmission -/

/-- In `t` the codec is sending the frame that is loaded in `s`, and byte `r` of it is next. -/
structure State.Offers (s : State) (r : Nat) (t : State) : Prop where
  responding : t.fsm = .responding
  txIdx : t.txIdx = r
  txLen : t.txLen = s.txLen
  body : t.txBodyByte = s.txBodyByte

/-- After `n` cycles from `s`, of which `r` were ready, the codec is in `t`: it has sent `r` bytes of the frame loaded
in `s`, and offers the next one unless these are all. -/
structure State.Sent (s : State) (n r : Nat) (t : State) : Prop where
  run : core.run n s = .next t
  inv : t.Inv
  inputs : t.inputs = s.inputs.drop n
  captured : capture n s = s.txFrame.take r
  offers : r < s.txLen + 2 → s.Offers r t

theorem State.Sent.zero {s : State} (hinv : s.Inv) (hs : s.fsm = .responding) (hidx : s.txIdx = 0) : s.Sent 0 0 s where
  run := rfl
  inv := hinv
  inputs := rfl
  captured := rfl
  offers _ := ⟨hs, hidx, rfl, rfl⟩

theorem State.Offers.txByte {s t : State} {r : Nat} (h : s.Offers r t) (hinv : t.Inv) :
    t.txByte = byteAt s.txFrame r := by
  obtain ⟨hs, hidx, hlen, hbody⟩ := h
  have hsending : t.Sending := ⟨hinv.sendLen hs, hinv.sendIdx hs, hinv.sendCrc hs⟩
  rw [hsending.txByte, State.txFrame_congr hlen hbody, hidx]

/-- A transfer lengthens what is captured by the next byte of the frame; any other cycle captures nothing (R58). -/
theorem State.Sent.captured_succ {s t : State} {n r : Nat} (h : s.Sent n r t) (hrst : t.input.rst = false)
    (hr : r + (if t.input.txReady = true then 1 else 0) ≤ s.txLen + 2) :
    capture (n + 1) s = s.txFrame.take (r + if t.input.txReady = true then 1 else 0) := by
  rw [capture_succ h.run, h.captured]
  cases hready : t.input.txReady with
  | false => rw [t.transferred_of_not_ready hready]; simp
  | true =>
    have hmore : r < s.txLen + 2 := by rw [hready] at hr; exact hr
    have hoffers := h.offers hmore
    rw [State.transferred_of_responding hoffers.responding hrst, hready, if_pos rfl, if_pos rfl,
      hoffers.txByte h.inv, take_succ_eq_append_byteAt (by rwa [State.txFrame_length])]
    rfl

/-- Until the last transfer the next state sends on (R206). -/
theorem State.Offers.step_offers {s t u : State} {r : Nat} (h : s.Offers r t) (hrst : t.input.rst = false)
    (hstep : step t = .next u) (hr : r + (if t.input.txReady = true then 1 else 0) < s.txLen + 2) :
    s.Offers (r + if t.input.txReady = true then 1 else 0) u := by
  obtain ⟨hs, hidx, hlen, hbody⟩ := h
  obtain ⟨hbuf, hkept, -, -, -, -, -, -, -, -, htransfer, hstall⟩ := transfersAdvanceAndStallsHold t u hs hrst hstep
  have hsame : u.txBodyByte = t.txBodyByte := by
    funext k
    rw [State.txBodyByte, State.txBodyByte, hbuf, (step_sameCommon hstep hrst).epoch]
    rfl
  cases hready : t.input.txReady with
  | true =>
    obtain ⟨hnext, -, hfsm⟩ := htransfer hready
    rw [hready, if_pos rfl] at hr
    rw [hidx, hlen, if_neg (by omega)] at hfsm
    exact ⟨hfsm, by rw [hnext, hidx, if_pos rfl], hkept.trans hlen, hsame.trans hbody⟩
  | false =>
    obtain ⟨hnext, -, hfsm, -⟩ := hstall hready
    exact ⟨hfsm, hnext.trans hidx, hkept.trans hlen, hsame.trans hbody⟩

/-- One more cycle without reset. -/
theorem State.Sent.succ {s t u : State} {n r : Nat} (h : s.Sent n r t) (hrst : t.input.rst = false)
    (hstep : step t = .next u) (hr : r + (if t.input.txReady = true then 1 else 0) ≤ s.txLen + 2) :
    s.Sent (n + 1) (r + if t.input.txReady = true then 1 else 0) u where
  run := run_add h.run ((run_succ (n := 0)).mpr ⟨u, hstep, rfl⟩)
  inv := everyStepKeepsTheInvariant t u h.inv hstep
  inputs := by
    rw [(step_sameCommon hstep hrst).inputs, ← List.tail_drop, ← h.inputs]
    rfl
  captured := h.captured_succ hrst hr
  offers hmore := (h.offers (by omega)).step_offers hrst hstep hmore

/-- The transfer of the last byte ends the frame (R206, R207). -/
theorem State.Offers.step_last {s t u : State} (h : s.Offers (s.txLen + 1) t) (hrst : t.input.rst = false)
    (hready : t.input.txReady = true) (hstep : step t = .next u) : u.fsm = .idle ∨ u.fsm = .stopped := by
  obtain ⟨hs, hidx, hlen, -⟩ := h
  obtain ⟨-, -, -, -, -, -, -, -, -, -, htransfer, -⟩ := transfersAdvanceAndStallsHold t u hs hrst hstep
  obtain ⟨-, -, hfsm⟩ := htransfer hready
  rw [hidx, hlen, if_pos rfl] at hfsm
  split at hfsm
  · exact .inr hfsm
  · exact .inl hfsm

theorem State.Sent.input {s t : State} {n r : Nat} (h : s.Sent n r t) (hn : n < s.inputs.length) :
    t.input = s.inputs[n] :=
  State.input_of_inputs (h.inputs.trans (List.drop_eq_getElem_cons hn))

/-- A cycle of the schedule, without reset. -/
theorem State.Sent.step_scheduled {s t : State} {n : Nat} (h : s.Sent n (readyCount s.inputs n) t)
    (hn : n < s.inputs.length) (hrst : s.inputs[n].rst = false) (hr : readyCount s.inputs (n + 1) ≤ s.txLen + 2) :
    ∃ u, step t = .next u ∧ s.Sent (n + 1) (readyCount s.inputs (n + 1)) u := by
  have hin := h.input hn
  have hcount := readyCount_succ hn
  rw [← hin] at hrst hcount
  have hstep := step_eq fun _ => h.inv.readsInRange
  exact ⟨_, hstep, hcount ▸ h.succ hrst hstep (hcount ▸ hr)⟩

/-- Through any schedule without reset, with no more ready cycles than the frame has bytes. -/
theorem exists_sent {s : State} (hinv : s.Inv) (hs : s.fsm = .responding) (hidx : s.txIdx = 0) {n : Nat}
    (hn : n ≤ s.inputs.length) (hrst : ∀ k, k < n → ∀ hk : k < s.inputs.length, s.inputs[k].rst = false)
    (hr : readyCount s.inputs n ≤ s.txLen + 2) : ∃ t, s.Sent n (readyCount s.inputs n) t := by
  induction n with
  | zero => exact ⟨s, State.Sent.zero hinv hs hidx⟩
  | succ n ih =>
    obtain ⟨t, ht⟩ := ih (Nat.le_of_succ_le hn) (fun k hk => hrst k (Nat.lt_succ_of_lt hk))
      ((readyCount_mono _ n.le_succ).trans hr)
    obtain ⟨u, -, hu⟩ := ht.step_scheduled hn (hrst n n.lt_succ_self hn) hr
    exact ⟨u, hu⟩

/-- The cycle whose transfer completes the frame was ready, and leaves RESPONDING. -/
theorem State.Sent.done {s t u : State} {n : Nat} (ht : s.Sent n (readyCount s.inputs n) t)
    (hu : core.run (n + 1) s = .next u) (hn : n < s.inputs.length) (hrst : s.inputs[n].rst = false)
    (hprev : readyCount s.inputs n = s.txLen + 1) (hall : readyCount s.inputs (n + 1) = s.txLen + 2) :
    u.fsm = .idle ∨ u.fsm = .stopped := by
  obtain ⟨v, hstep, hv⟩ := ht.step_scheduled hn hrst hall.le
  obtain rfl : v = u := Host.Outcome.next.inj (hv.run.symm.trans hu)
  have hcount := readyCount_succ hn
  rw [← ht.input hn] at hrst hcount
  have hready : t.input.txReady = true := by
    by_contra hstall
    rw [if_neg hstall] at hcount
    omega
  rw [hprev] at ht
  exact (ht.offers (Nat.lt_succ_self _)).step_last hrst hready hstep

/-- Settles O60: by induction on the cycles, the state after them has sent as many bytes as were ready. -/
theorem transmittedBytesAreTheFrame : Obligations.TransmittedBytesAreTheFrame := by
  intro n s ready hinv hs hidx hn hquiet hready hcap
  obtain rfl : ready = readyCount s.inputs := funext hready
  have hrst (k : Nat) (hk : k < n) (hlen : k < s.inputs.length) : s.inputs[k].rst = false :=
    hquiet _ (List.mem_take_iff_getElem.mpr ⟨k, Nat.lt_min.mpr ⟨hk, hlen⟩, rfl⟩)
  obtain ⟨t, ht⟩ := exists_sent hinv hs hidx hn hrst hcap
  refine ⟨t, ht.run, ht.captured, fun hmore => (ht.offers hmore).responding, fun hpos hall hprev => ?last,
    fun hmore i hi hreset => ?reset⟩
  case last =>
    obtain ⟨m, rfl⟩ := Nat.exists_eq_succ_of_ne_zero (Nat.ne_of_gt hpos)
    obtain ⟨u, hu⟩ := exists_sent hinv hs hidx (Nat.le_of_succ_le hn)
      (fun k hk => hrst k (Nat.lt_succ_of_lt hk)) ((readyCount_mono _ m.le_succ).trans hcap)
    exact hu.done ht.run hn (hrst m m.lt_succ_self hn) hprev hall
  case reset =>
    obtain ⟨hlt, rfl⟩ := List.getElem?_eq_some_iff.mp hi
    have hsame : capture (n + 1) s = s.txFrame.take (readyCount s.inputs n) := by
      rw [capture_succ ht.run, ht.captured, ht.input hlt, State.transferred_of_reset _ hreset]
      exact List.append_nil _
    refine ⟨hsame, ?_⟩
    rw [hsame, List.length_take]
    omega

end Sys2Proof.Machine
end
